-- ==== Sys2Proof/Word.lean ====
section
/-! DEFINITION. The word types of the block: 32-bit command words and 8-bit values (30_encoding.md R70, 10_state.md R26, R27). -/

namespace Sys2Proof

/-- A command word, a response and the recorded word of a fault: 32 bits (30_encoding.md R70, 10_state.md R33, R34). -/
abbrev Word := BitVec 32

/-- A colour channel's intensity or a sample: 8 bits (10_state.md R26, R27). -/
abbrev Byte := BitVec 8

/-- One bit as it goes on an LED line: `true` is a logical 1 (40_led_encoder.md R100). -/
abbrev Bit := Bool

/-- The bits one command emits back to back on one line, in emission order (00_scope.md R13, 40_led_encoder.md R101). -/
abbrev Burst := List Bit

end Sys2Proof
end

