-- ==== Sys2Proof/Config.lean ====
section
/-! DEFINITION. What is fixed for a run: the implementation parameters of 00_scope.md R8 and the free values the spec does not choose (00_scope.md R11, `draw_N()`; 10_state.md R38, the schedule). -/

namespace Sys2Proof

/-- The three colour channels, in the wheel's order red, green, blue. As the value of `RAIN_PH` a colour names the
channel that is DECREASING: 0 red, 1 green, 2 blue (10_state.md R26). -/
inductive Colour where
  | red
  | green
  | blue
deriving DecidableEq, Repr, Inhabited

/-- The five agents of the block (10_state.md R38). -/
inductive Agent where
  | main
  | adc
  | adcIsr
  | timer
  | tickIsr
deriving DecidableEq, Repr, Inhabited

/-- The values a reset draws: the registers whose reset value 10_state.md R40 leaves unspecified. -/
structure ResetDraws where
  /-- `RAIN_R` after reset. -/
  rainR : Byte
  /-- `RAIN_G` after reset. -/
  rainG : Byte
  /-- `RAIN_B` after reset. -/
  rainB : Byte
  /-- `RAIN_PH` after reset, one of the three phases. -/
  rainPh : Colour
  /-- `SAMPLE` after reset. -/
  sample : Byte
  /-- `ADC_DATA` after reset. -/
  adcData : Byte
deriving DecidableEq, Repr, Inhabited

namespace Config

/-- The host's fixed configuration of one strip: its LED line and its number of pixels
(48_host_display.md R200, 00_scope.md R8 `pixelCount[k]`). -/
structure StripParams where
  /-- `chan[k]`. -/
  chan : Nat
  /-- `pixelCount[k]`. -/
  pixelCount : Nat
deriving DecidableEq, Repr

/-- The implementation parameters, one field per row of the table of 00_scope.md R8; times in nanoseconds.
`NSTRIPS` is the number of entries of `strips`. -/
structure Params where
  /-- `NCH`: number of LED lines, 1..16. -/
  nch : Nat
  /-- `T1H`: high time of a logical 1. -/
  t1h : Nat
  /-- `T1L`: low time of a logical 1. -/
  t1l : Nat
  /-- `T0H`: high time of a logical 0. -/
  t0h : Nat
  /-- `T0L`: low time of a logical 0. -/
  t0l : Nat
  /-- `T_TOL`: allowed deviation of each phase. -/
  tTol : Nat
  /-- `T_RESET_GAP`: low time after which the LEDs latch; the block never emits it. -/
  tResetGap : Nat
  /-- `T_STROBE`: least high time of the strobe pulse. -/
  tStrobe : Nat
  /-- `T_SETTLE`: wait between the strobe and the conversion start. -/
  tSettle : Nat
  /-- `T_CONV`: conversion time. -/
  tConv : Nat
  /-- `ADC_BITS`: converter width, 8. -/
  adcBits : Nat
  /-- `ADC_MAY_STALL`: whether a started conversion may never complete. -/
  adcMayStall : Bool
  /-- `BRIGHTNESS`: upper bound of each rainbow channel, 1..255. -/
  brightness : Nat
  /-- `RAIN_STEP`: amount one tick moves the wheel, 1..255. -/
  rainStep : Nat
  /-- `TICK_PERIOD`: animation timer period. -/
  tickPeriod : Nat
  /-- `RESEED_ON_REPEAT`: whether SET_MODE Rainbow while in Rainbow reseeds. -/
  reseedOnRepeat : Bool
  /-- `NBANDS`: bands of the external equalizer, at least 1; not modelled beyond that. -/
  nbands : Nat
  /-- `ACCURACY`: the host's full-scale sample value, at least `STRIP_LENGTH`. -/
  accuracy : Nat
  /-- `STRIP_LENGTH`: the host's pixel count of the mapping, at least 1. -/
  stripLength : Nat
  /-- The host's strips: `chan[k]` and `pixelCount[k]`, 1..NCH of them, one strip per line. -/
  strips : List StripParams
deriving DecidableEq, Repr

/-- OPEN in 00_scope.md R8 (D10): no source gives the tolerance; nothing in the model depends on it. -/
opaque openTTol : Nat
/-- OPEN in 00_scope.md R8 (D11): the latch gap. -/
opaque openTResetGap : Nat
/-- OPEN in 00_scope.md R8 (D12): the settle time. -/
opaque openTSettle : Nat
/-- OPEN in 00_scope.md R8 (D16): the conversion time. -/
opaque openTConv : Nat
/-- OPEN in 00_scope.md R8 (D26): the tick period. -/
opaque openTickPeriod : Nat
/-- OPEN in 00_scope.md R8 (D52): the band count less one, so that the count is at least 1. -/
opaque openNbandsLessOne : Nat

/-- The draws of the power-on reset that `State.reset` stands for: a value the model does not choose
(10_state.md R40; 93_implementation_defined.md U3 to U5). DESIGN CHOICE (notes/assumptions/3.md). -/
opaque resetDraws : ResetDraws

/-- The n-th agent choice that nothing in State fixes: the model fixes no schedule (10_state.md R38,
60_exceptions.md R252). DESIGN CHOICE (notes/assumptions/4.md). -/
opaque freeAgent : Nat → Agent

/-- The analog input digitized when the n-th free choice is the converter: `draw_8()` of 42_sampler.md R136.
DESIGN CHOICE (notes/assumptions/5.md). -/
opaque freeSample : Nat → Byte

end Config
end Sys2Proof
end

