-- ==== Sys2Proof/Machine/Parameters.lean ====
section
/-! DEFINITION. The configuration check (00_scope.md R9) and the configuration `State.reset` carries. -/

namespace Sys2Proof
namespace Config

/-- The configuration is admitted: every parameter is in its legal range (00_scope.md R8, R9; 48_host_display.md R200
for the strips' lines). -/
def Params.admitted (p : Params) : Bool :=
  decide (
    1 ≤ p.nch ∧ p.nch ≤ 16 ∧
    p.adcBits = 8 ∧
    1 ≤ p.brightness ∧ p.brightness ≤ 255 ∧
    1 ≤ p.rainStep ∧ p.rainStep ≤ 255 ∧
    1 ≤ p.nbands ∧
    1 ≤ p.stripLength ∧ p.stripLength ≤ p.accuracy ∧
    1 ≤ p.strips.length ∧ p.strips.length ≤ p.nch ∧
    (∀ k ∈ p.strips, k.chan < p.nch) ∧
    (p.strips.map StripParams.chan).Nodup)

/-- The configuration `State.reset` carries: the source's values and the spec's defaults where 00_scope.md R8 gives
them; the configuration of the source's end-to-end example (95_test_vectors.md E4: eight lines, eight strips of eight
pixels, `B = 255`, `ACCURACY = 255`, `STRIP_LENGTH = 8`) for `NCH`, `BRIGHTNESS` and the host; `RAIN_STEP = 1`; and the
opaque constants above for the OPEN times and the band count.
DESIGN CHOICE (notes/assumptions/1.md): unsafe for a claim about runs from `State.reset` only; every statement about a
state holds for every configuration. -/
def exampleParams : Params :=
  { nch := 8
    t1h := 700
    t1l := 600
    t0h := 350
    t0l := 800
    tTol := openTTol
    tResetGap := openTResetGap
    tStrobe := 18000
    tSettle := openTSettle
    tConv := openTConv
    adcBits := 8
    adcMayStall := false
    brightness := 255
    rainStep := 1
    tickPeriod := openTickPeriod
    reseedOnRepeat := true
    nbands := openNbandsLessOne + 1
    accuracy := 255
    stripLength := 8
    strips := (List.range 8).map (fun k => { chan := k, pixelCount := 8 }) }

end Config
end Sys2Proof
end

