-- ==== Sys2Proof/Syntax.lean ====
section
/-! DEFINITION. The command set, one constructor per row of spec/opcode_table.json (30_encoding.md R75), and the
operand types (30_encoding.md R72). -/

namespace Sys2Proof

/-- The display modes; the operand of SET_MODE and the contents of `MODE` (10_state.md R23). -/
inductive Mode where
  | default
  | shine
  | rainbow
deriving DecidableEq, Repr

/-- One pixel's colour: red, green, blue, 8 bits each (30_encoding.md R72, 20_memory.md R54). -/
structure Rgb where
  /-- Bits 23:16 of the colour operand. -/
  r : Byte
  /-- Bits 15:8. -/
  g : Byte
  /-- Bits 7:0. -/
  b : Byte
deriving DecidableEq, Repr

/-- The fourteen commands (30_encoding.md R75). The channel operand is the 4-bit field `ch`; FRAME carries the colours
of its data words (30_encoding.md R79). -/
inductive Instr where
  /-- NOP (44_control.md R170). -/
  | nop
  /-- SEND_BIT (40_led_encoder.md R102). -/
  | sendBit (ch : BitVec 4) (v : Bit)
  /-- SEND_BYTE (40_led_encoder.md R103). -/
  | sendByte (ch : BitVec 4) (byte : Byte)
  /-- SEND_PIXEL (40_led_encoder.md R104). -/
  | sendPixel (ch : BitVec 4) (rgb : Rgb)
  /-- FRAME with its pixels (40_led_encoder.md R105). -/
  | frame (ch : BitVec 4) (px : List Rgb)
  /-- IRQ_OFF (41_irq_mask.md R120). -/
  | irqOff
  /-- IRQ_ON (41_irq_mask.md R121). -/
  | irqOn
  /-- STROBE_START (42_sampler.md R130). -/
  | strobeStart
  /-- IS_READY (42_sampler.md R131). -/
  | isReady
  /-- TAKE_SAMPLE (42_sampler.md R132). -/
  | takeSample
  /-- WAIT_READY (42_sampler.md R133). -/
  | waitReady
  /-- SET_MODE (43_animation.md R150). -/
  | setMode (m : Mode)
  /-- READ_RAINBOW (43_animation.md R151). -/
  | readRainbow
  /-- READ_STATUS (44_control.md R171). -/
  | readStatus
deriving DecidableEq, Repr

end Sys2Proof
end

