-- ==== Sys2Proof/WellFormed.lean ====
section
/-! DEFINITION. Which command terms are commands of a block with `nch` LED lines: the checks of 30_encoding.md R73 and
R72 that the operand types do not already make (a mode is one of three by its type, so mode 3 has no term). -/

namespace Sys2Proof

/-- A channel command's line exists: `ch < NCH` (30_encoding.md R73). -/
def channelExists (nch : Nat) (ch : BitVec 4) : Bool := decide (ch.toNat < nch)

/-- A FRAME's pixel count fits its 16-bit count field: `n` in 0..65535 (30_encoding.md R72). -/
def countFits (px : List Rgb) : Bool := decide (px.length ≤ 65535)

/-- The command is one of a block with `nch` lines. -/
def Instr.wf (nch : Nat) : Instr → Bool
  | .sendBit ch _ => channelExists nch ch
  | .sendByte ch _ => channelExists nch ch
  | .sendPixel ch _ => channelExists nch ch
  | .frame ch px => channelExists nch ch && countFits px
  | .nop => true
  | .irqOff => true
  | .irqOn => true
  | .strobeStart => true
  | .isReady => true
  | .takeSample => true
  | .waitReady => true
  | .setMode _ => true
  | .readRainbow => true
  | .readStatus => true

end Sys2Proof
end

