-- ==== Sys2Proof/Decode.lean ====
section
/-! DEFINITION. Decoding of command words, total and rejecting by name, and the encoder
(30_encoding.md R70 to R79). -/

namespace Sys2Proof

/-- Why a word in command position is `Illegal` (30_encoding.md R76; each raises ILLEGAL_CMD). -/
inductive Illegal where
  /-- No word at the index (20_memory.md R50). -/
  | noWord
  /-- `op = 0xE` or `op = 0xF`. -/
  | reservedOpcode
  /-- A reserved bit of the command word is set (R71). -/
  | reservedBits
  /-- A channel command with `ch ≥ NCH` (R73). -/
  | noSuchChannel
  /-- SET_MODE with `m = 3`. -/
  | modeThree
  /-- A FRAME whose data words do not all fit in the stream. -/
  | frameDataMissing
  /-- A FRAME data word with a nonzero bit in 31:24. -/
  | frameDataBits
deriving DecidableEq, Repr

/-- `op = w[31:28]` (R70). -/
def opField (w : Word) : BitVec 4 := w.extractLsb' 28 4

/-- `ch = w[27:24]` (R70, R72). -/
def chField (w : Word) : BitVec 4 := w.extractLsb' 24 4

/-- `w[7:0]`, the operand of SEND_BYTE (R72). -/
def byteField (w : Word) : Byte := w.extractLsb' 0 8

/-- The colour of `w[23:0]`: red in 23:16, green in 15:8, blue in 7:0 (R72). -/
def rgbField (w : Word) : Rgb :=
  { r := w.extractLsb' 16 8, g := w.extractLsb' 8 8, b := w.extractLsb' 0 8 }

/-- `n = w[15:0]`, the pixel count of FRAME (R72). -/
def countField (w : Word) : Nat := (w.extractLsb' 0 16).toNat

/-- The code of a mode: 0 Default, 1 Shine, 2 Rainbow (10_state.md R23). -/
def Mode.code : Mode → BitVec 2
  | .default => 0
  | .shine => 1
  | .rainbow => 2

/-- The mode of a code; 3 is none (10_state.md R23, R79). -/
def modeOfCode (m : BitVec 2) : Option Mode :=
  match m.toNat with
  | 0 => some .default
  | 1 => some .shine
  | 2 => some .rainbow
  | _ => none

/-- Format Z: every bit below the opcode is reserved (R71). -/
def decodeZ (w : Word) (i : Instr) : Except Illegal Instr :=
  if w.extractLsb' 0 28 = 0 then .ok i else .error .reservedBits

/-- The `n` colours of a FRAME's data words, or why they are illegal (R76, R79). -/
def framePixels : Nat → List Word → Except Illegal (List Rgb)
  | 0, _ => .ok []
  | _ + 1, [] => .error .frameDataMissing
  | n + 1, w :: ws =>
    if w.extractLsb' 24 8 = 0 then
      match framePixels n ws with
      | .ok px => .ok (rgbField w :: px)
      | .error e => .error e
    else .error .frameDataBits

/-- SEND_BIT: `w[23:1] = 0` (R79). -/
def decodeSendBit (nch : Nat) (w : Word) : Except Illegal Instr :=
  if channelExists nch (chField w) then
    if w.extractLsb' 1 23 = 0 then .ok (.sendBit (chField w) (w.getLsbD 0)) else .error .reservedBits
  else .error .noSuchChannel

/-- SEND_BYTE: `w[23:8] = 0` (R79). -/
def decodeSendByte (nch : Nat) (w : Word) : Except Illegal Instr :=
  if channelExists nch (chField w) then
    if w.extractLsb' 8 16 = 0 then .ok (.sendByte (chField w) (byteField w)) else .error .reservedBits
  else .error .noSuchChannel

/-- SEND_PIXEL: every `imm24` is legal (R79). -/
def decodeSendPixel (nch : Nat) (w : Word) : Except Illegal Instr :=
  if channelExists nch (chField w) then .ok (.sendPixel (chField w) (rgbField w)) else .error .noSuchChannel

/-- FRAME: `w[23:16] = 0`, and every data word exists and has bits 31:24 zero (R79). -/
def decodeFrame (nch : Nat) (w : Word) (rest : List Word) : Except Illegal Instr :=
  if channelExists nch (chField w) then
    if w.extractLsb' 16 8 = 0 then
      match framePixels (countField w) rest with
      | .ok px => .ok (.frame (chField w) px)
      | .error e => .error e
    else .error .reservedBits
  else .error .noSuchChannel

/-- SET_MODE: `w[27:2] = 0` and `w[1:0] ≠ 3` (R79). -/
def decodeSetMode (w : Word) : Except Illegal Instr :=
  if w.extractLsb' 2 26 = 0 then
    match modeOfCode (w.extractLsb' 0 2) with
    | some m => .ok (.setMode m)
    | none => .error .modeThree
  else .error .reservedBits

/-- `decode(w)` of R79, on the word in command position and the words after it. -/
def decodeWords (nch : Nat) (w : Word) (rest : List Word) : Except Illegal Instr :=
  match (opField w).toNat with
  | 0x0 => decodeZ w .nop
  | 0x1 => decodeSendBit nch w
  | 0x2 => decodeSendByte nch w
  | 0x3 => decodeSendPixel nch w
  | 0x4 => decodeFrame nch w rest
  | 0x5 => decodeZ w .irqOff
  | 0x6 => decodeZ w .irqOn
  | 0x7 => decodeZ w .strobeStart
  | 0x8 => decodeZ w .isReady
  | 0x9 => decodeZ w .takeSample
  | 0xA => decodeZ w .waitReady
  | 0xB => decodeSetMode w
  | 0xC => decodeZ w .readRainbow
  | 0xD => decodeZ w .readStatus
  | _ => .error .reservedOpcode

/-- Decode the command at index `cp` of the stream, on a block with `nch` lines (R79). -/
def decode (nch : Nat) (stream : List Word) (cp : Nat) : Except Illegal Instr :=
  match stream.drop cp with
  | [] => .error .noWord
  | w :: rest => decodeWords nch w rest

/-- A command's length in words: 1, or `1 + n` for FRAME (R78). -/
def Instr.length : Instr → Nat
  | .frame _ px => 1 + px.length
  | .nop => 1
  | .sendBit _ _ => 1
  | .sendByte _ _ => 1
  | .sendPixel _ _ => 1
  | .irqOff => 1
  | .irqOn => 1
  | .strobeStart => 1
  | .isReady => 1
  | .takeSample => 1
  | .waitReady => 1
  | .setMode _ => 1
  | .readRainbow => 1
  | .readStatus => 1

/-- A command's length found from its first word alone (R78). -/
def lengthOfWord (w : Word) : Nat :=
  if opField w = 0x4 then 1 + countField w else 1

/-- A command word from its three fields: `op` in bits 31:28, `ch` in 27:24, `imm24` in 23:0 (R70). -/
def commandWord (op ch : BitVec 4) (imm24 : BitVec 24) : Word :=
  op.setWidth 32 <<< 28 ||| ch.setWidth 32 <<< 24 ||| imm24.setWidth 32

/-- The 24-bit colour operand: red in the most significant byte (R72). -/
def Rgb.operand (p : Rgb) : BitVec 24 :=
  p.r.setWidth 24 <<< 16 ||| p.g.setWidth 24 <<< 8 ||| p.b.setWidth 24

/-- A format D data word: bits 31:24 zero (R71). -/
def dataWord (p : Rgb) : Word := p.operand.setWidth 32

/-- The words of a command, from the patterns of R75. -/
def encode : Instr → List Word
  | .nop => [commandWord 0x0 0 0]
  | .sendBit ch v => [commandWord 0x1 ch ((BitVec.ofBool v).setWidth 24)]
  | .sendByte ch byte => [commandWord 0x2 ch (byte.setWidth 24)]
  | .sendPixel ch rgb => [commandWord 0x3 ch rgb.operand]
  | .frame ch px => commandWord 0x4 ch (BitVec.ofNat 24 px.length) :: px.map dataWord
  | .irqOff => [commandWord 0x5 0 0]
  | .irqOn => [commandWord 0x6 0 0]
  | .strobeStart => [commandWord 0x7 0 0]
  | .isReady => [commandWord 0x8 0 0]
  | .takeSample => [commandWord 0x9 0 0]
  | .waitReady => [commandWord 0xA 0 0]
  | .setMode m => [commandWord 0xB 0 (m.code.setWidth 24)]
  | .readRainbow => [commandWord 0xC 0 0]
  | .readStatus => [commandWord 0xD 0 0]

/-- One row of the opcode table of R75: the word matches when `w &&& mask = bits`. -/
structure OpcodeRow where
  /-- The command's name. -/
  mnemonic : String
  /-- The fixed bits of the pattern. -/
  mask : Word
  /-- Their value. -/
  bits : Word
deriving DecidableEq, Repr

/-- The opcode table of R75, its patterns written as mask and value. -/
def opcodeTable : List OpcodeRow :=
  [ { mnemonic := "NOP", mask := 0xFFFFFFFF, bits := 0x00000000 },
    { mnemonic := "SEND_BIT", mask := 0xF0FFFFFE, bits := 0x10000000 },
    { mnemonic := "SEND_BYTE", mask := 0xF0FFFF00, bits := 0x20000000 },
    { mnemonic := "SEND_PIXEL", mask := 0xF0000000, bits := 0x30000000 },
    { mnemonic := "FRAME", mask := 0xF0FF0000, bits := 0x40000000 },
    { mnemonic := "IRQ_OFF", mask := 0xFFFFFFFF, bits := 0x50000000 },
    { mnemonic := "IRQ_ON", mask := 0xFFFFFFFF, bits := 0x60000000 } ] ++
  [ { mnemonic := "STROBE_START", mask := 0xFFFFFFFF, bits := 0x70000000 },
    { mnemonic := "IS_READY", mask := 0xFFFFFFFF, bits := 0x80000000 },
    { mnemonic := "TAKE_SAMPLE", mask := 0xFFFFFFFF, bits := 0x90000000 },
    { mnemonic := "WAIT_READY", mask := 0xFFFFFFFF, bits := 0xA0000000 },
    { mnemonic := "SET_MODE", mask := 0xFFFFFFFC, bits := 0xB0000000 },
    { mnemonic := "READ_RAINBOW", mask := 0xFFFFFFFF, bits := 0xC0000000 },
    { mnemonic := "READ_STATUS", mask := 0xFFFFFFFF, bits := 0xD0000000 } ]

/-- The word has the row's fixed bits. -/
def OpcodeRow.matches (row : OpcodeRow) (w : Word) : Bool := w &&& row.mask == row.bits

/-- A command's name in the opcode table (R75). -/
def Instr.mnemonic : Instr → String
  | .nop => "NOP"
  | .sendBit _ _ => "SEND_BIT"
  | .sendByte _ _ => "SEND_BYTE"
  | .sendPixel _ _ => "SEND_PIXEL"
  | .frame _ _ => "FRAME"
  | .irqOff => "IRQ_OFF"
  | .irqOn => "IRQ_ON"
  | .strobeStart => "STROBE_START"
  | .isReady => "IS_READY"
  | .takeSample => "TAKE_SAMPLE"
  | .waitReady => "WAIT_READY"
  | .setMode _ => "SET_MODE"
  | .readRainbow => "READ_RAINBOW"
  | .readStatus => "READ_STATUS"

/-- The words of a command given as one number, bit 0 the least significant bit of the first word: the words `nbits`
covers, then the words of zeros that a FRAME's count still asks for. -/
def wordsOfNumber (nbits w : Nat) : List Word :=
  let given := (List.range ((nbits + 31) / 32)).map (fun k => BitVec.ofNat 32 ((w % 2 ^ nbits) / 2 ^ (32 * k)))
  given ++ List.replicate (lengthOfWord (given.headD 0) - given.length) 0

/-- The command the decoder reads from those words, on a block with the lines of `Config.exampleParams`. -/
def decodeTableWord (nbits w : Nat) : Option Instr :=
  (decode Config.exampleParams.nch (wordsOfNumber nbits w) 0).toOption

end Sys2Proof
end

