-- ==== Sys2Proof/Machine/Operands.lean ====
section
/-! DEFINITION. The operand forms: the bits a value is sent as (20_memory.md R53, R54), the values commands return
(20_memory.md R57), and the codes of the enumerated registers. -/

namespace Sys2Proof.Machine

/-- The bits of a value, most significant first (R53). -/
def msbFirst {w : Nat} (v : BitVec w) : Burst := (List.range w).map (fun k => v.getLsbD (w - 1 - k))

/-- The eight bits of a byte in emission order (R53; 40_led_encoder.md R103). -/
def byteBits (v : Byte) : Burst := msbFirst v

/-- The 24 bits of a pixel in emission order: red, then green, then blue, each most significant bit first
(R54; 40_led_encoder.md R104). -/
def pixelBits (p : Rgb) : Burst := byteBits p.r ++ byteBits p.g ++ byteBits p.b

/-- The bits of a frame: its pixels in ascending position (20_memory.md R55; 40_led_encoder.md R105). -/
def frameBits (px : List Rgb) : Burst := px.flatMap pixelBits

/-- `zext_32` of one flag (00_scope.md R10, R57). -/
def flagWord (b : Bool) : Word := (BitVec.ofBool b).setWidth 32

/-- `zext_32` of an 8-bit value (R57). -/
def byteWord (v : Byte) : Word := v.setWidth 32

/-- `zext_32({r, g, b})`: red in bits 23:16, green 15:8, blue 7:0 (43_animation.md R151). -/
def colourWord (r g b : Byte) : Word :=
  r.setWidth 32 <<< 16 ||| g.setWidth 32 <<< 8 ||| b.setWidth 32

end Sys2Proof.Machine

namespace Sys2Proof

/-- The next channel of the wheel: red, green, blue, red (43_animation.md R155). -/
def Colour.next : Colour → Colour
  | .red => .green
  | .green => .blue
  | .blue => .red

/-- The code of a phase in `RAIN_PH`: 0, 1, 2 (10_state.md R26). -/
def Colour.code : Colour → BitVec 2
  | .red => 0
  | .green => 1
  | .blue => 2

end Sys2Proof
end

