-- ==== Sys2Proof/Machine/State.lean ====
section
/-! DEFINITION. The state of the block (10_state.md R20 to R41), the reasons a step can stop, and the state after reset. -/

namespace Sys2Proof.Machine

/-- The contents of `FCAUSE`: no fault, or one of the five faults (60_exceptions.md R240; codes 6 and 7 are never used).
A fault is entered by a NEXT state (60_exceptions.md R242). -/
inductive FaultCause where
  /-- 0: no fault. -/
  | none
  /-- 1, ILLEGAL_CMD: the command word does not decode. -/
  | illegalCmd
  /-- 2, UNMASKED_SEND: a primitive send with `IE = 1`. -/
  | unmaskedSend
  /-- 3, ADC_BUSY_START: a conversion start while one is in progress. -/
  | adcBusyStart
  /-- 4, STALE_TAKE: a take with no sample ready. -/
  | staleTake
  /-- 5, WAIT_DEADLOCK: a wait no agent's step can end. -/
  | waitDeadlock
deriving DecidableEq, Repr

/-- What makes one step: an agent's turn, with the analog input where it is the converter's (10_state.md R38,
42_sampler.md R136), or a reset from outside with its draws (70_reset_and_hazards.md R280). -/
inductive Event where
  | main
  | adc (v : Byte)
  | adcIsr
  | timer
  | tickIsr
  | reset (d : ResetDraws)
deriving DecidableEq, Repr

/-- The block's state. The fields from `cp` to `strobes` are the registers and traces of 10_state.md R21 to R35;
`cfg` and `stream` are fixed for a run (R41); `sched` and `freePos` are the model's own (notes/assumptions/4.md). -/
structure State where
  /-- The implementation parameters (00_scope.md R8). -/
  cfg : Config.Params
  /-- The command stream (20_memory.md R50): word `a` is `stream[a]`. -/
  stream : List Word
  /-- `cp` (R21). -/
  cp : Nat
  /-- `IE` (R22). -/
  ie : Bool
  /-- `MODE` (R23). -/
  mode : Mode
  /-- `ARMED` (R24). -/
  armed : Bool
  /-- `TICK_PEND` (R25). -/
  tickPend : Bool
  /-- `RAIN_R` (R26). -/
  rainR : Byte
  /-- `RAIN_G` (R26). -/
  rainG : Byte
  /-- `RAIN_B` (R26). -/
  rainB : Byte
  /-- `RAIN_PH` (R26): the channel that is decreasing. -/
  rainPh : Colour
  /-- `SAMPLE` (R27). -/
  sample : Byte
  /-- `READY` (R28). -/
  ready : Bool
  /-- `ADC_BUSY` (R29). -/
  adcBusy : Bool
  /-- `ADC_PEND` (R30). -/
  adcPend : Bool
  /-- `ADC_DATA` (R31). -/
  adcData : Byte
  /-- `LINE[ch]` (R32), one level for each of the `NCH` lines. -/
  line : List Bool
  /-- `STROBE` (R32). -/
  strobe : Bool
  /-- `RESP` (R33). -/
  resp : Word
  /-- `OUT` (R33), oldest first. -/
  out : List Word
  /-- `HALT` (R34). -/
  halt : Bool
  /-- `FCAUSE` (R34). -/
  fcause : FaultCause
  /-- `FCP` (R34). -/
  fcp : Nat
  /-- `FCMD` (R34). -/
  fcmd : Word
  /-- `WIRE[ch]` (R35), the bursts of each of the `NCH` lines, oldest first. -/
  wire : List (List Burst)
  /-- `STROBES` (R35). -/
  strobes : Nat
  /-- The coming events already fixed, oldest first: the model's own field. -/
  sched : List Event
  /-- How many free agent choices have been taken: the model's own field. -/
  freePos : Nat
deriving DecidableEq, Repr

/-- Why the machine stops. -/
inductive Fault where
  /-- Raised by `step` alone, when an agent is to move and `HALT = 1`: no agent of the block steps (10_state.md R34,
  60_exceptions.md R242). Safe: the spec gives no step there either; only a reset event goes on. -/
  | halted (cause : FaultCause)
deriving DecidableEq, Repr

/-- Why the model gives no step. -/
inductive Refusal where
  /-- Raised by `exec` for a command without a meaning, by its name in the opcode table. No arm raises it. Safe. -/
  | notModelled (mnemonic : String)
  /-- Raised by `step` alone, on a configuration outside the legal ranges: a model refuses it (00_scope.md R9). Safe. -/
  | configurationNotAdmitted
deriving DecidableEq, Repr

/-- The outcome of a step of this machine. -/
abbrev Result := Host.Outcome State Fault Refusal

/-- The block after a reset, on configuration `cfg` with command stream `stream`: every register at its value of
10_state.md R40, the unspecified ones at the draws `d`. Nothing is scheduled. -/
def State.atReset (cfg : Config.Params) (stream : List Word) (d : ResetDraws) : State :=
  { cfg := cfg
    stream := stream
    cp := 0
    ie := false
    mode := .default
    armed := false
    tickPend := false
    rainR := d.rainR
    rainG := d.rainG
    rainB := d.rainB
    rainPh := d.rainPh
    sample := d.sample
    ready := false
    adcBusy := false
    adcPend := false
    adcData := d.adcData
    line := List.replicate cfg.nch false
    strobe := false
    resp := 0
    out := []
    halt := false
    fcause := .none
    fcp := 0
    fcmd := 0
    wire := List.replicate cfg.nch []
    strobes := 0
    sched := []
    freePos := 0 }

/-- The machine right after reset: the configuration of the source's example (notes/assumptions/1.md), no command
stream yet (notes/assumptions/9.md), the unspecified registers at the opaque draws (notes/assumptions/3.md). -/
def State.reset : State := State.atReset Config.exampleParams [] Config.resetDraws

end Sys2Proof.Machine
end

