-- ==== Sys2Proof/Machine/Timing.lean ====
section
/-! DEFINITION. The shape of symbols and bursts in time, as functions of the configuration (40_led_encoder.md R100, R101,
R106; 70_reset_and_hazards.md R300 to R302). The step keeps no time (00_scope.md R12): these functions say what a burst
of the wire trace is on the line, and the step drives `LINE` through their levels. Times are in nanoseconds. -/

namespace Sys2Proof.Machine

/-- A stretch of constant level: the level and how long it lasts. -/
abbrev Phase := Bool × Nat

/-- The high phase of a symbol (R100). -/
def highTime (cfg : Config.Params) (b : Bit) : Nat := if b then cfg.t1h else cfg.t0h

/-- The low phase of a symbol (R100). -/
def lowTime (cfg : Config.Params) (b : Bit) : Nat := if b then cfg.t1l else cfg.t0l

/-- One symbol: high for its high phase, then low for its low phase (R100). -/
def symbolWave (cfg : Config.Params) (b : Bit) : List Phase :=
  [(true, highTime cfg b), (false, lowTime cfg b)]

/-- The symbols of a burst, each starting where the one before it ends, with no added time (R101). -/
def burstWave (cfg : Config.Params) (bits : Burst) : List Phase := bits.flatMap (symbolWave cfg)

/-- How long a wave lasts. -/
def waveTime (wave : List Phase) : Nat := (wave.map Prod.snd).sum

/-- The transmission time of a burst (R301). -/
def burstTime (cfg : Config.Params) (bits : Burst) : Nat := waveTime (burstWave cfg bits)

/-- The wave of one line over its bursts, each followed by a low interval of length `gap` that the block does not fix
and that is at least 0 (R101). The gaps are arguments: nothing bounds them. -/
def lineWave (cfg : Config.Params) : List (Burst × Nat) → List Phase
  | [] => []
  | (bits, gap) :: rest => burstWave cfg bits ++ (false, gap) :: lineWave cfg rest

/-- A measured phase within the tolerance of its target: same level, deviation at most `T_TOL` (R100, R106). -/
def withinTolerance (cfg : Config.Params) (target measured : Phase) : Bool :=
  target.1 == measured.1 && decide (target.2 ≤ measured.2 + cfg.tTol) && decide (measured.2 ≤ target.2 + cfg.tTol)

/-- A measured wave is a burst's: phase for phase within the tolerance (R106). -/
def waveWithinTolerance (cfg : Config.Params) (bits : Burst) (measured : List Phase) : Bool :=
  decide (measured.length = (burstWave cfg bits).length) &&
  ((burstWave cfg bits).zip measured).all (fun p => withinTolerance cfg p.1 p.2)

/-- The least duration of a STROBE_START: the strobe pulse, then the settle time (R302, 70_reset_and_hazards.md R298). -/
def strobeStartLeastTime (cfg : Config.Params) : Nat := cfg.tStrobe + cfg.tSettle

end Sys2Proof.Machine
end

