-- ==== Sys2Proof/Machine/Ops.lean ====
section
/-! DEFINITION. The named operations over the stream and the registers: the primitives of 00_scope.md R11, fault entry
(60_exceptions.md R242) as one shared operation, and reset (70_reset_and_hazards.md R280), the only way out of it. -/

namespace Sys2Proof.Machine

/-- `MemRead(a, 1)`: the word at index `a` of the command stream; none for `a ≥ len` (00_scope.md R11, 20_memory.md R50).
Nothing writes the stream. -/
def memRead (s : State) (a : Nat) : Option Word := s.stream[a]?

/-- The command stream as a listing by index: the address space of 20_memory.md R50, whose unit is the word and which
has no byte addresses (notes/assumptions/10.md). -/
def Memory.cells (stream : List Word) : List (Nat × Word) := stream.zipIdx.map (fun p => (p.2, p.1))

/-- The canonical form of such a listing: indices strictly rising. An index that is not listed has no word (R50), so no
entry can equal what an unlisted index reads as. Every stream's listing has the form. -/
abbrev Memory.wf (cells : List (Nat × Word)) : Prop := cells.Pairwise (fun a b => a.1 < b.1)

/-- `cp <- cp + k` (00_scope.md R11). -/
def State.advance (s : State) (k : Nat) : State := { s with cp := s.cp + k }

/-- `IE <- b`. -/
def State.setIe (s : State) (b : Bool) : State := { s with ie := b }

/-- The level of line `ch`; a line the block does not have is low (notes/assumptions/22.md). -/
def State.lineOf (s : State) (ch : Nat) : Bool := s.line.getD ch false

/-- The bursts of line `ch` (10_state.md R35); none for a line the block does not have (notes/assumptions/22.md). -/
def State.wireOf (s : State) (ch : Nat) : List Burst := s.wire.getD ch []

/-- `LINE[ch] <- level`. -/
def State.setLine (s : State) (ch : Nat) (level : Bool) : State := { s with line := s.line.set ch level }

/-- Append one burst to `WIRE[ch]` (40_led_encoder.md R101). -/
def State.appendBurst (s : State) (ch : Nat) (bits : Burst) : State :=
  { s with wire := s.wire.modify ch (fun old => old ++ [bits]) }

/-- Drive line `ch` through the levels of a wave, in order (40_led_encoder.md R100). -/
def driveLine (ch : Nat) (wave : List Phase) (s : State) : State :=
  wave.foldl (fun t p => t.setLine ch p.1) s

/-- `Emit(ch, b)`: one symbol, high then low, leaving the line low (40_led_encoder.md R100). -/
def emit (ch : Nat) (b : Bit) (s : State) : State := driveLine ch (symbolWave s.cfg b) s

/-- `Burst(ch, bits)`: emit the bits in order and append them to `WIRE[ch]`; nothing for no bits
(40_led_encoder.md R101). -/
def burst (ch : Nat) (bits : Burst) (s : State) : State :=
  if bits.isEmpty then s
  else (bits.foldl (fun t b => emit ch b t) s).appendBurst ch bits

/-- `Respond(v)`: `RESP <- v`, and `v` is appended to `OUT` (00_scope.md R11, 10_state.md R33). -/
def State.respond (s : State) (v : Word) : State := { s with resp := v, out := s.out ++ [v] }

/-- `STROBE <- level`. -/
def State.setStrobe (s : State) (level : Bool) : State := { s with strobe := level }

/-- One strobe pulse: high, then low, counted (42_sampler.md R130). -/
def strobePulse (s : State) : State :=
  let t := (s.setStrobe true).setStrobe false
  { t with strobes := t.strobes + 1 }

/-- Fault entry: the cause, the faulting command's index and first word, and `HALT`; nothing else
(60_exceptions.md R242). Where there is no word at `cp`, which no step reaches, `FCMD` keeps its contents
(notes/assumptions/11.md). -/
def State.enterFault (s : State) (cause : FaultCause) : State :=
  { s with
    fcause := cause
    fcp := s.cp
    fcmd := (memRead s s.cp).getD s.fcmd
    halt := true }

/-- `raise Fault(code)`: the command has no other effect, and the block enters the fault state (00_scope.md R11). -/
def raise (cause : FaultCause) (s : State) : Result := .next (s.enterFault cause)

/-- Reset, the only way out of the fault state: every register to its value of 10_state.md R40, the unspecified ones to
a fresh draw; the command stream is not changed (70_reset_and_hazards.md R280). What is scheduled stays. -/
def State.resetBy (s : State) (d : ResetDraws) : State :=
  { State.atReset s.cfg s.stream d with sched := s.sched, freePos := s.freePos }

/-- A free agent choice as an event: the converter's carries a free input (10_state.md R38, 42_sampler.md R136). -/
def eventOfAgent (a : Agent) (v : Byte) : Event :=
  match a with
  | .main => .main
  | .adc => .adc v
  | .adcIsr => .adcIsr
  | .timer => .timer
  | .tickIsr => .tickIsr

/-- The event of the next step: the oldest scheduled one, or, where nothing is scheduled, a free choice of agent
(notes/assumptions/4.md). -/
def State.nextEvent (s : State) : Event :=
  match s.sched with
  | e :: _ => e
  | [] => eventOfAgent (Config.freeAgent s.freePos) (Config.freeSample s.freePos)

/-- The state with that event taken: only the model's own fields move. -/
def State.takeEvent (s : State) : State :=
  match s.sched with
  | _ :: rest => { s with sched := rest }
  | [] => { s with freePos := s.freePos + 1 }

/-- The words of `ws` in place of the stream's words from index `a` on, the stream grown with zero words where it is
too short. It stands for the load from outside; no step uses it. -/
def placeWords (stream : List Word) (a : Nat) (ws : List Word) : List Word :=
  (stream ++ List.replicate (a - stream.length) 0).take a ++ ws ++ stream.drop (a + ws.length)

/-- The state with a command stream given from outside (20_memory.md R50). -/
def State.withStream (s : State) (stream : List Word) : State := { s with stream := stream }

/-- The state with its coming events fixed. -/
def State.withSched (s : State) (events : List Event) : State := { s with sched := events }

end Sys2Proof.Machine
end

