-- ==== Sys2Proof/Machine/Animation.lean ====
section
/-! DEFINITION. Display mode and animation: SET_MODE, READ_RAINBOW, the seed and step of the colour wheel, and the bodies
of the timer's step and of the tick handler (43_animation.md). -/

namespace Sys2Proof.Machine

/-- `RAIN[c]` (43_animation.md R155). -/
def State.rain (s : State) : Colour → Byte
  | .red => s.rainR
  | .green => s.rainG
  | .blue => s.rainB

/-- `RAIN[c] <- v`. -/
def State.setRain (s : State) (c : Colour) (v : Byte) : State :=
  match c with
  | .red => { s with rainR := v }
  | .green => { s with rainG := v }
  | .blue => { s with rainB := v }

/-- SEED: green at BRIGHTNESS, the others at zero, green decreasing next (43_animation.md R152). -/
def seed (s : State) : State :=
  { s with
    rainR := 0
    rainG := BitVec.ofNat 8 s.cfg.brightness
    rainB := 0
    rainPh := .green }

/-- How far the decreasing channel moves: `min(S, RAIN[d])` (43_animation.md R155). -/
def wheelDec (stepSize d : Nat) : Nat := min stepSize d

/-- How far the increasing channel moves: `min(S, B - RAIN[i])`, and 0 at or above `B` (43_animation.md R155). -/
def wheelInc (stepSize bright i : Nat) : Nat := if i < bright then min stepSize (bright - i) else 0

/-- ADV, one step of the colour wheel (43_animation.md R155). The naturals of the rule never exceed 255 under an admitted
configuration, so their narrowing to 8 bits loses nothing there (notes/assumptions/23.md). -/
def adv (s : State) : State :=
  let d := s.rainPh
  let i := s.rainPh.next
  let dOld := (s.rain d).toNat
  let iOld := (s.rain i).toNat
  let dNew := dOld - wheelDec s.cfg.rainStep dOld
  let iNew := iOld + wheelInc s.cfg.rainStep s.cfg.brightness iOld
  let moved := (s.setRain d (BitVec.ofNat 8 dNew)).setRain i (BitVec.ofNat 8 iNew)
  if dNew = 0 then { moved with rainPh := i } else moved

/-- SET_MODE (43_animation.md R150). -/
def execSetMode (m : Mode) (s : State) : Result :=
  let moded := { s with mode := m }
  match m with
  | .rainbow =>
    let armedOn := { moded with armed := true }
    if s.mode ≠ .rainbow ∨ s.cfg.reseedOnRepeat = true then .next ((seed armedOn).advance 1)
    else .next (armedOn.advance 1)
  | .default => .next ({ moded with armed := false, tickPend := false }.advance 1)
  | .shine => .next ({ moded with armed := false, tickPend := false }.advance 1)

/-- READ_RAINBOW: one untorn snapshot (43_animation.md R151, 20_memory.md R62). -/
def execReadRainbow (s : State) : Result :=
  .next ((s.respond (colourWord s.rainR s.rainG s.rainB)).advance 1)

/-- TIMER_TICK (43_animation.md R153). -/
def timerTick (s : State) : State := { s with tickPend := true }

/-- TICK_ISR: the pending tick is taken and the wheel moves one step (43_animation.md R154). -/
def tickHandler (s : State) : State := adv { s with tickPend := false }

end Sys2Proof.Machine
end

