-- ==== Sys2Proof/Machine/Flags.lean ====
section
/-! DEFINITION. Everything computed from the flags: the status word (10_state.md R36), the code of `FCAUSE`
(60_exceptions.md R240), the wait condition (42_sampler.md R133) and when each agent is enabled (10_state.md R38). -/

namespace Sys2Proof.Machine

/-- The 3-bit code of `FCAUSE` (60_exceptions.md R240). -/
def FaultCause.code : FaultCause → BitVec 3
  | .none => 0
  | .illegalCmd => 1
  | .unmaskedSend => 2
  | .adcBusyStart => 3
  | .staleTake => 4
  | .waitDeadlock => 5

/-- A flag at bit `k` of a word that is zero elsewhere. -/
def flagBit (b : Bool) (k : Nat) : Word := (BitVec.ofBool b).setWidth 32 <<< k

/-- The status word: bit 0 IE, 2:1 MODE, 3 ARMED, 4 TICK_PEND, 5 READY, 6 ADC_BUSY, 7 ADC_PEND, 31:8 zero
(10_state.md R36, 44_control.md R171). -/
def statusWord (s : State) : Word :=
  flagBit s.adcPend 7 ||| flagBit s.adcBusy 6 ||| flagBit s.ready 5 ||| flagBit s.tickPend 4 |||
    flagBit s.armed 3 ||| s.mode.code.setWidth 32 <<< 1 ||| flagBit s.ie 0

/-- No agent's step can ever set `READY`: interrupts are masked, or no conversion is in progress or pending
(42_sampler.md R133). -/
def waitIsHopeless (s : State) : Bool := !s.ie || (!s.adcBusy && !s.adcPend)

/-- The converter can complete (42_sampler.md R136); `HALT` is looked at by the step. -/
def adcReady (s : State) : Bool := s.adcBusy

/-- The completion handler can be taken: pending, and interrupts enabled (42_sampler.md R137, 60_exceptions.md R250). -/
def adcIsrReady (s : State) : Bool := s.ie && s.adcPend

/-- The timer can mark a tick: armed, and none pending (43_animation.md R153). -/
def timerReady (s : State) : Bool := s.armed && !s.tickPend

/-- The tick handler can be taken: pending, and interrupts enabled (43_animation.md R154, 60_exceptions.md R250). -/
def tickIsrReady (s : State) : Bool := s.ie && s.tickPend

/-- The command sequence has not ended (10_state.md R21, R38). -/
def hasCommand (s : State) : Bool := decide (s.cp < s.stream.length)

end Sys2Proof.Machine
end

