-- ==== Sys2Proof/Machine/Control.lean ====
section
/-! DEFINITION. The control commands: NOP, READ_STATUS (44_control.md). -/

namespace Sys2Proof.Machine

/-- NOP (44_control.md R170). -/
def execNop (s : State) : Result := .next (s.advance 1)

/-- READ_STATUS (44_control.md R171). -/
def execReadStatus (s : State) : Result := .next ((s.respond (statusWord s)).advance 1)

end Sys2Proof.Machine
end

