-- ==== Sys2Proof/Machine/Encoder.lean ====
section
/-! DEFINITION. The LED protocol encoder's commands: SEND_BIT, SEND_BYTE, SEND_PIXEL, FRAME (40_led_encoder.md). -/

namespace Sys2Proof.Machine

/-- A primitive send: refused with UNMASKED_SEND while interrupts are enabled, else one burst
(40_led_encoder.md R102 to R104). -/
def primitiveSend (ch : BitVec 4) (bits : Burst) (s : State) : Result :=
  if s.ie then raise .unmaskedSend s
  else .next ((burst ch.toNat bits s).advance 1)

/-- SEND_BIT (40_led_encoder.md R102). -/
def execSendBit (ch : BitVec 4) (v : Bit) (s : State) : Result := primitiveSend ch [v] s

/-- SEND_BYTE (40_led_encoder.md R103). -/
def execSendByte (ch : BitVec 4) (byte : Byte) (s : State) : Result := primitiveSend ch (byteBits byte) s

/-- SEND_PIXEL (40_led_encoder.md R104). -/
def execSendPixel (ch : BitVec 4) (rgb : Rgb) (s : State) : Result := primitiveSend ch (pixelBits rgb) s

/-- FRAME: mask, one burst of the whole strip, enable, past the header and its data words (40_led_encoder.md R105).
Decoding has checked and read the data words (30_encoding.md R79). -/
def execFrame (ch : BitVec 4) (px : List Rgb) (s : State) : Result :=
  let masked := s.setIe false
  let sent := burst ch.toNat (frameBits px) masked
  .next ((sent.setIe true).advance (1 + px.length))

end Sys2Proof.Machine
end

