-- ==== Sys2Proof/Machine/IrqMask.lean ====
section
/-! DEFINITION. Interrupt masking: IRQ_OFF, IRQ_ON (41_irq_mask.md). -/

namespace Sys2Proof.Machine

/-- IRQ_OFF (41_irq_mask.md R120). -/
def execIrqOff (s : State) : Result := .next ((s.setIe false).advance 1)

/-- IRQ_ON (41_irq_mask.md R121). -/
def execIrqOn (s : State) : Result := .next ((s.setIe true).advance 1)

end Sys2Proof.Machine
end

