-- ==== Sys2Proof/Machine/Sampler.lean ====
section
/-! DEFINITION. The sampler: STROBE_START, IS_READY, TAKE_SAMPLE, WAIT_READY, and the bodies of the converter's step and
of the completion handler (42_sampler.md). -/

namespace Sys2Proof.Machine

/-- STROBE_START (42_sampler.md R130). -/
def execStrobeStart (s : State) : Result :=
  if s.adcBusy then raise .adcBusyStart s
  else
    let pulsed := strobePulse s
    .next ({ pulsed with adcBusy := true }.advance 1)

/-- IS_READY (42_sampler.md R131). -/
def execIsReady (s : State) : Result := .next ((s.respond (flagWord s.ready)).advance 1)

/-- TAKE_SAMPLE (42_sampler.md R132). -/
def execTakeSample (s : State) : Result :=
  if s.ready then
    let answered := s.respond (byteWord s.sample)
    .next ({ answered with ready := false }.advance 1)
  else raise .staleTake s

/-- WAIT_READY (42_sampler.md R133). To hold is to leave the state as it is: `cp` unchanged, the command tried again at a
later step (00_scope.md R11; notes/assumptions/21.md). -/
def execWaitReady (s : State) : Result :=
  if s.ready then .next (s.advance 1)
  else if waitIsHopeless s then raise .waitDeadlock s
  else .next s

/-- ADC_COMPLETE: the converter's result, not busy, completion pending (42_sampler.md R136). -/
def adcComplete (v : Byte) (s : State) : State :=
  { s with adcData := v, adcBusy := false, adcPend := true }

/-- ADC_ISR: the value, then the flag that publishes it, then the pending flag cleared (42_sampler.md R137). -/
def adcHandler (s : State) : State :=
  { s with sample := s.adcData, ready := true, adcPend := false }

end Sys2Proof.Machine
end

