-- ==== Sys2Proof/Machine/Dispatch.lean ====
section
/-! DEFINITION. One arm per command (30_encoding.md R75). -/

namespace Sys2Proof.Machine

def exec (i : Instr) (s : State) : Host.Outcome State Fault Refusal :=
  match i with
  | .nop => Sys2Proof.Machine.execNop s
  | .sendBit ch v => Sys2Proof.Machine.execSendBit ch v s
  | .sendByte ch byte => Sys2Proof.Machine.execSendByte ch byte s
  | .sendPixel ch rgb => Sys2Proof.Machine.execSendPixel ch rgb s
  | .frame ch px => Sys2Proof.Machine.execFrame ch px s
  | .irqOff => Sys2Proof.Machine.execIrqOff s
  | .irqOn => Sys2Proof.Machine.execIrqOn s
  | .strobeStart => Sys2Proof.Machine.execStrobeStart s
  | .isReady => Sys2Proof.Machine.execIsReady s
  | .takeSample => Sys2Proof.Machine.execTakeSample s
  | .waitReady => Sys2Proof.Machine.execWaitReady s
  | .setMode m => Sys2Proof.Machine.execSetMode m s
  | .readRainbow => Sys2Proof.Machine.execReadRainbow s
  | .readStatus => Sys2Proof.Machine.execReadStatus s

end Sys2Proof.Machine
end

