-- ==== Sys2Proof/Machine/Agents.lean ====
section
/-! DEFINITION. The turns of the five agents (10_state.md R38): MAIN's fetch, decode and run, and the guarded steps of the
other four. An agent whose step is not enabled does not move the block (notes/assumptions/6.md). -/

namespace Sys2Proof.Machine

/-- The command at `cp`, decoded on the block's own lines (30_encoding.md R79). -/
def fetch (s : State) : Except Illegal Instr := decode s.cfg.nch s.stream s.cp

/-- MAIN's turn: decode first, ILLEGAL_CMD before any other check, else run the command (30_encoding.md R79,
60_exceptions.md R241). At the end of the stream MAIN is not enabled (10_state.md R38). -/
def mainTurn (s : State) : Result :=
  if hasCommand s then
    match fetch s with
    | .ok i => exec i s
    | .error _ => raise .illegalCmd s
  else .next s

/-- The converter's turn (42_sampler.md R136). -/
def adcTurn (v : Byte) (s : State) : State := if adcReady s then adcComplete v s else s

/-- The completion handler's turn (42_sampler.md R137). -/
def adcIsrTurn (s : State) : State := if adcIsrReady s then adcHandler s else s

/-- The timer's turn (43_animation.md R153). -/
def timerTurn (s : State) : State := if timerReady s then timerTick s else s

/-- The tick handler's turn (43_animation.md R154). -/
def tickIsrTurn (s : State) : State := if tickIsrReady s then tickHandler s else s

/-- An agent's turn while `HALT = 0`; a reset from outside is no agent's turn and happens in either case. -/
def turn (e : Event) (s : State) : Result :=
  match e with
  | .main => mainTurn s
  | .adc v => .next (adcTurn v s)
  | .adcIsr => .next (adcIsrTurn s)
  | .timer => .next (timerTurn s)
  | .tickIsr => .next (tickIsrTurn s)
  | .reset d => .next (s.resetBy d)

/-- One event: once `HALT = 1` no agent steps (10_state.md R34, R38), and only reset goes on (60_exceptions.md R243). -/
def happen (e : Event) (s : State) : Result :=
  match e with
  | .reset d => .next (s.resetBy d)
  | e => if s.halt then .fault (.halted s.fcause) else turn e s

/-- One step: refused on a configuration outside its ranges (00_scope.md R9), else the next event happens. -/
def stepOnce (s : State) : Result :=
  if s.cfg.admitted then happen s.nextEvent s.takeEvent else .refused .configurationNotAdmitted

/-- The instruction given as one number (bit 0 the least significant bit of its first word) stored at `cp`, with MAIN's
turn first in the schedule: what the very next step then runs. -/
def placeInstruction (s : State) (nbits w : Nat) : State :=
  (s.withStream (placeWords s.stream s.cp (wordsOfNumber nbits w))).withSched (.main :: s.sched)

end Sys2Proof.Machine
end

