-- ==== Sys2Proof/Machine/RefHost.lean ====
section
/-! DEFINITION. The reference host that drives the block: colours, mapping, skip rule, render, and the host as a machine
that issues one command after another and reads the block's responses: boot, then the controller cycle for ever
(48_host_display.md R200 to R213, 70_reset_and_hazards.md R283). It is not block hardware (00_scope.md R6): it stands
beside the step (notes/assumptions/17.md); Machine/HostRig.lean connects the two. -/

namespace Sys2Proof.Machine

/-- The host's state of one strip (R200). -/
structure HostStrip where
  /-- `chan[k]`, the strip's LED line. -/
  chan : Nat
  /-- `pixelCount[k]`, fixed. -/
  pixelCount : Nat
  /-- `litCount[k]`. -/
  litCount : Nat
deriving DecidableEq, Repr

/-- The strips at startup, each with `litCount = 0` (R200). -/
def hostStrips (cfg : Config.Params) : List HostStrip :=
  cfg.strips.map (fun k => { chan := k.chan, pixelCount := k.pixelCount, litCount := 0 })

/-- Sample to litCount: `s / (ACCURACY / STRIP_LENGTH)`, integer divisions (R201). -/
def litCountOf (cfg : Config.Params) (s : Byte) : Nat := s.toNat / (cfg.accuracy / cfg.stripLength)

/-- Whether the host renders strip `k` when the new count is `l`: not when it is unchanged outside Rainbow (R202). -/
def mustRender (mode : Mode) (k : HostStrip) (l : Nat) : Bool := !(l == k.litCount && mode != .rainbow)

/-- An intensity as the 8 bits of a colour channel. -/
def intensity (v : Nat) : Byte := BitVec.ofNat 8 v

/-- The off pixel (R203 to R205). -/
def offPixel : Rgb := { r := 0, g := 0, b := 0 }

/-- Default mode: green, amber in the two positions below the top, red at the top, off from `l` on (R203). -/
def colourDefault (bright i l p : Nat) : Rgb :=
  if i ≥ l then offPixel
  else if i + 1 = p then { r := intensity bright, g := 0, b := 0 }
  else if i + 3 ≥ p then { r := intensity bright, g := intensity bright, b := 0 }
  else { r := 0, g := intensity bright, b := 0 }

/-- The level of Shine mode at pixel `i` (R204). -/
def shineLevel (bright i l : Nat) : Nat :=
  let scale := bright / 9
  if i ≥ l then 0
  else if i + 1 = l then 3 * 3 * scale
  else if i + 3 ≥ l then
    let j := i + 4 - l
    scale * j * j
  else 0

/-- Shine mode: the level on all three channels (R204). -/
def colourShine (bright i l : Nat) : Rgb :=
  let v := intensity (shineLevel bright i l)
  { r := v, g := v, b := v }

/-- Rainbow mode: the snapshot on every lit pixel (R205). -/
def colourRainbow (snap : Rgb) (i l : Nat) : Rgb := if i < l then snap else offPixel

/-- The colour of pixel `i` of a strip with `p` pixels and count `l` (R203 to R205). -/
def pixelColour (cfg : Config.Params) (mode : Mode) (snap : Rgb) (l p i : Nat) : Rgb :=
  match mode with
  | .default => colourDefault cfg.brightness i l p
  | .shine => colourShine cfg.brightness i l
  | .rainbow => colourRainbow snap i l

/-- The colours of a render, pixel 0 first (R206). -/
def renderColours (cfg : Config.Params) (mode : Mode) (snap : Rgb) (k : HostStrip) : List Rgb :=
  (List.range k.pixelCount).map (pixelColour cfg mode snap k.litCount k.pixelCount)

/-- The render of a strip: one FRAME on its line (R206). -/
def renderCommand (cfg : Config.Params) (mode : Mode) (snap : Rgb) (k : HostStrip) : Instr :=
  .frame (BitVec.ofNat 4 k.chan) (renderColours cfg mode snap k)

/-- The sample in a TAKE_SAMPLE's response: `RESP[7:0]` (R210). -/
def sampleOfResponse (resp : Word) : Byte := byteField resp

/-- The snapshot in a READ_RAINBOW's response: bits 23:0 (R207). -/
def snapshotOfResponse (resp : Word) : Rgb := rgbField resp

/-- The strip after its turn in the cycle: the new count is stored in either case (R202). -/
def stripAfter (cfg : Config.Params) (k : HostStrip) (s : Byte) : HostStrip :=
  { k with litCount := litCountOf cfg s }

/-- Where the host is in its program: the command it has issued last, with what it has read so far in this strip's turn
(R210, R211; 70_reset_and_hazards.md R283). At boot R283 lets a host swap SET_MODE and IRQ_ON; SET_MODE first is a
DESIGN CHOICE (notes/assumptions/17.md). -/
inductive HostPhase where
  /-- Boot: SET_MODE, the only one (R211). -/
  | bootMode
  /-- Boot: IRQ_ON. -/
  | bootIrq
  /-- Boot: STROBE_START, for the first cycle's first sample. -/
  | bootStrobe
  /-- Step 1: WAIT_READY. -/
  | wait
  /-- Step 2: TAKE_SAMPLE. -/
  | take
  /-- Step 3: STROBE_START, the sample `s` read. -/
  | strobe (s : Byte)
  /-- READ_RAINBOW, right before the FRAME in Rainbow (R207). -/
  | snapshot
  /-- Step 6: the FRAME, with the snapshot it shows in Rainbow. -/
  | render (snap : Rgb)
deriving DecidableEq, Repr

/-- The host's state (R200, R210): the mode it set at start of day, its strips in their fixed order, whose turn it is,
and where it is in that turn. -/
structure HostState where
  /-- The start-of-day mode; nothing changes it (R211). -/
  mode : Mode
  /-- Strips `0 .. NSTRIPS-1`. -/
  strips : List HostStrip
  /-- `k`, the strip whose turn it is. -/
  current : Nat
  /-- The command issued last. -/
  phase : HostPhase
deriving DecidableEq, Repr

/-- The host at start of day, with its first command, the SET_MODE, issued (R200, R211). -/
def hostStart (cfg : Config.Params) (m : Mode) : HostState :=
  { mode := m, strips := hostStrips cfg, current := 0, phase := .bootMode }

/-- The strip whose turn it is; `current` is below the number of strips from `hostStart` on, when there is one. -/
def HostState.strip (h : HostState) : HostStrip := h.strips.getD h.current { chan := 0, pixelCount := 0, litCount := 0 }

/-- The command the host has issued last (R206, R207, R210; 70_reset_and_hazards.md R283). -/
def hostCommand (cfg : Config.Params) (h : HostState) : Instr :=
  match h.phase with
  | .bootMode => .setMode h.mode
  | .bootIrq => .irqOn
  | .bootStrobe => .strobeStart
  | .wait => .waitReady
  | .take => .takeSample
  | .strobe _ => .strobeStart
  | .snapshot => .readRainbow
  | .render snap => renderCommand cfg h.mode snap h.strip

/-- The strip after `k` in the fixed round-robin order: after the last, the first again (R210). -/
def HostState.nextStrip (h : HostState) : Nat := if h.current + 1 < h.strips.length then h.current + 1 else 0

/-- The next strip's turn begins. -/
def HostState.nextTurn (h : HostState) : HostState := { h with current := h.nextStrip, phase := .wait }

/-- Steps 4 to 6 up to the next command: map the sample, decide on the old count, store the new one in either case, then
render, reading the colour first in Rainbow, or go on to the next strip (R201, R202, R207, R210). -/
def HostState.showSample (cfg : Config.Params) (h : HostState) (s : Byte) : HostState :=
  let stored := { h with strips := h.strips.modify h.current (fun k => stripAfter cfg k s) }
  if mustRender h.mode h.strip (litCountOf cfg s) then
    if h.mode = .rainbow then { stored with phase := .snapshot } else { stored with phase := .render offPixel }
  else stored.nextTurn

/-- The host when its last command has completed and `RESP` is `resp`: it reads a TAKE_SAMPLE's sample from `RESP[7:0]`
and a READ_RAINBOW's colour from `RESP[23:0]`, and issues its next command. There is no last one (R207, R210). -/
def hostAfter (cfg : Config.Params) (h : HostState) (resp : Word) : HostState :=
  match h.phase with
  | .bootMode => { h with phase := .bootIrq }
  | .bootIrq => { h with phase := .bootStrobe }
  | .bootStrobe => { h with phase := .wait }
  | .wait => { h with phase := .take }
  | .take => { h with phase := .strobe (sampleOfResponse resp) }
  | .strobe s => h.showSample cfg s
  | .snapshot => { h with phase := .render (snapshotOfResponse resp) }
  | .render _ => h.nextTurn

/-- The host after `n` commands, when `RESP` was `answers i` at the end of the i-th. -/
def hostAt (cfg : Config.Params) (m : Mode) (answers : Nat → Word) : Nat → HostState
  | 0 => hostStart cfg m
  | n + 1 => hostAfter cfg (hostAt cfg m answers n) (answers n)

/-- The n-th command the host issues, from 0: boot, then its cycles without end. -/
def hostIssues (cfg : Config.Params) (m : Mode) (answers : Nat → Word) (n : Nat) : Instr :=
  hostCommand cfg (hostAt cfg m answers n)

/-- The words of the host's first `n` commands: a command stream (70_reset_and_hazards.md R286: a claim about the host
is one about a finite prefix). -/
def hostWords (cfg : Config.Params) (m : Mode) (answers : Nat → Word) (n : Nat) : List Word :=
  (List.range n).flatMap (fun i => encode (hostIssues cfg m answers i))

end Sys2Proof.Machine
end

