-- ==== Sys2Proof/Machine/HostRig.lean ====
section
/-! DEFINITION. The reference host connected to the block (48_host_display.md R207, R210): the host writes its next
command at the end of the stream once the last one has completed, having read the block's own `RESP`. No step of the
block uses it. -/

namespace Sys2Proof.Machine

/-- The host and the block it drives. -/
structure Rig where
  /-- The host; its phase is the command it wrote last. -/
  host : HostState
  /-- The block. -/
  block : State
deriving DecidableEq, Repr

/-- The rig at start of day: the host's first command stands at the end of the block's stream, so a block with an empty stream
runs it first (48_host_display.md R211). -/
def Rig.start (s : State) (m : Mode) : Rig :=
  let h := hostStart s.cfg m
  { host := h, block := s.withStream (s.stream ++ encode (hostCommand s.cfg h)) }

/-- The host may go on: its last command has completed. That it waits for ever at a faulted block, until a reset, is a
DESIGN CHOICE (notes/assumptions/24.md). -/
def Rig.commandDone (g : Rig) : Bool := !g.block.halt && decide (g.block.cp = g.block.stream.length)

/-- The host's turn: it reads `RESP`, and writes its next command after the last. It waits while that one is not done
(48_host_display.md R210). -/
def Rig.hostTurn (g : Rig) : Rig :=
  if g.commandDone then
    let h := hostAfter g.block.cfg g.host g.block.resp
    { host := h, block := g.block.withStream (g.block.stream ++ encode (hostCommand g.block.cfg h)) }
  else g

/-- The block's turn: one step of it, in which the host does not move. That step may be a reset in mid-run, and the spec
does not say what the host does then. DESIGN CHOICE (notes/assumptions/24.md): it keeps its mode, counts and phase, does
not boot again, and goes on when the block, from `cp = 0`, has run the whole stream written so far. -/
def Rig.blockTurn (g : Rig) : Host.Outcome Rig Fault Refusal :=
  match step g.block with
  | .next t => .next { g with block := t }
  | .fault r => .fault r
  | .refused r => .refused r

end Sys2Proof.Machine
end

