-- ==== Sys2Proof/Safety.lean ====
section
/-! DEFINITION. The terms claims are stated in: the invariants of 10_state.md R39, whose turn it is, when a run ends well
(70_reset_and_hazards.md R285), and fair infinite runs (42_sampler.md R136, R137; 43_animation.md R153, R154). -/

namespace Sys2Proof.Machine

/-- The invariants every step keeps (10_state.md R39, first list), and that `LINE` and `WIRE` have one entry for each of
the `NCH` lines (10_state.md R32, R35). -/
structure State.Inv (s : State) : Prop where
  /-- `ARMED = 1` if and only if `MODE = 2`. -/
  armed_iff : s.armed = true ↔ s.mode = .rainbow
  /-- `TICK_PEND = 1` implies `ARMED = 1`. -/
  tick_armed : s.tickPend = true → s.armed = true
  /-- Every line is low at a step boundary. -/
  lines_low : ∀ level ∈ s.line, level = false
  /-- The strobe is low at a step boundary. -/
  strobe_low : s.strobe = false
  /-- `HALT = 0` if and only if `FCAUSE = 0`. -/
  halt_iff : s.halt = false ↔ s.fcause = .none
  /-- One level for each line. -/
  line_count : s.line.length = s.cfg.nch
  /-- One trace for each line. -/
  wire_count : s.wire.length = s.cfg.nch

/-- The colour-wheel invariant (10_state.md R39, second list): every channel within BRIGHTNESS, the decreasing and the
increasing channel sum to it, the third is 0. -/
structure State.WheelInv (s : State) : Prop where
  /-- Every channel is in [0, BRIGHTNESS]. -/
  bounded : ∀ c : Colour, (s.rain c).toNat ≤ s.cfg.brightness
  /-- `RAIN[d] + RAIN[i] = BRIGHTNESS`. -/
  sum : (s.rain s.rainPh).toNat + (s.rain s.rainPh.next).toNat = s.cfg.brightness
  /-- The third channel is 0. -/
  third : s.rain s.rainPh.next.next = 0

/-- Event `e` happens in the next step, on an admitted configuration and a block that has not halted. -/
structure State.Moves (s : State) (e : Event) : Prop where
  /-- The configuration is admitted (00_scope.md R9). -/
  admitted : s.cfg.admitted = true
  /-- `HALT = 0` (10_state.md R38). -/
  running : s.halt = false
  /-- The event is next. -/
  event : s.nextEvent = e

/-- It is MAIN's turn, and the word in command position is `w`. -/
structure State.MainAt (s : State) (w : Word) : Prop extends s.Moves .main where
  /-- The word at `cp`. -/
  word : memRead s s.cp = some w

/-- Whenever word `w` is in command position and it is MAIN's turn, the step runs command `i`. -/
def RunsAs (w : Word) (i : Instr) : Prop := ∀ s : State, s.MainAt w → step s = exec i s.takeEvent

/-- Fault entry, written out (60_exceptions.md R242): `t` is `s` with the cause, `FCP = cp`, `FCMD` the word at `cp` and
`HALT = 1`, and nothing else changed. -/
def FaultsInto (s : State) (cause : FaultCause) (w : Word) (t : State) : Prop :=
  t = { s with fcause := cause, fcp := s.cp, fcmd := w, halt := true }

/-- Whenever word `w` is in command position and it is MAIN's turn, the step enters the ILLEGAL_CMD fault and has no
other effect. -/
def RaisesIllegal (w : Word) : Prop :=
  ∀ s : State, s.MainAt w → ∃ t, step s = .next t ∧ FaultsInto s.takeEvent .illegalCmd w t

/-- A run of a finite stream has ended well (70_reset_and_hazards.md R285): not halted, the stream used up, no conversion
in progress, no completion handler still due. -/
def State.endedWell (s : State) : Bool :=
  !s.halt && decide (s.cp = s.stream.length) && !s.adcBusy && (!s.adcPend || !s.ie)

/-- What is observed of a state: everything but the model's own scheduling fields (70_reset_and_hazards.md R285). -/
def State.observed (s : State) : State := { s with sched := [], freePos := 0 }

/-- Agent `a` is enabled (10_state.md R38; for MAIN holding in WAIT_READY, 42_sampler.md R133). -/
def enabled (a : Agent) (s : State) : Bool :=
  !s.halt &&
  match a with
  | .main => hasCommand s && !(decide (fetch s = .ok .waitReady) && !s.ready && !waitIsHopeless s)
  | .adc => adcReady s
  | .adcIsr => adcIsrReady s
  | .timer => timerReady s
  | .tickIsr => tickIsrReady s

/-- The agent whose turn an event is; a reset is none's. -/
def agentOfEvent : Event → Option Agent
  | .main => some .main
  | .adc _ => some .adc
  | .adcIsr => some .adcIsr
  | .timer => some .timer
  | .tickIsr => some .tickIsr
  | .reset _ => none

/-- An infinite run: each state steps to the next; where the machine has stopped, it stays. -/
def IsRun (r : Nat → State) : Prop :=
  ∀ n, step (r n) = .next (r (n + 1)) ∨ ((∀ t, step (r n) ≠ .next t) ∧ r (n + 1) = r n)

/-- The state after a step, or the same state where the machine has stopped. -/
def stepOrStay (s : State) : State :=
  match step s with
  | .next t => t
  | .fault _ => s
  | .refused _ => s

/-- The run that starts in a state: its n-th state. -/
def runFrom (s : State) : Nat → State
  | 0 => s
  | n + 1 => stepOrStay (runFrom s n)

/-- Agent `a` is treated weakly fairly: if from some point on it stays enabled, its turn comes
(42_sampler.md R136: "once enabled, it happens"; R137: "while it stays enabled, it happens"). -/
def WeaklyFair (a : Agent) (r : Nat → State) : Prop :=
  ∀ n, (∀ m, n ≤ m → enabled a (r m) = true) → ∃ m, n ≤ m ∧ agentOfEvent (r m).nextEvent = some a

/-- A fair run: the completion handler is weakly fair, and the converter is unless `ADC_MAY_STALL`; the timer and the
tick handler are not subject to fairness (42_sampler.md R136, R137; 43_animation.md R153, R154). -/
def FairRun (r : Nat → State) : Prop :=
  IsRun r ∧ WeaklyFair .adcIsr r ∧ ((r 0).cfg.adcMayStall = false → WeaklyFair .adc r)

/-- No reset comes from outside during the run. -/
def NoReset (r : Nat → State) : Prop := ∀ n d, (r n).nextEvent ≠ .reset d

end Sys2Proof.Machine
end

