-- ==== Sys2Proof/Certificates/Slice0/Obligations.lean ====
section
/-! DEFINITION. The statements for the provers, file by file of the spec. A statement "for every state" holds for every
configuration, since the configuration is a field of the state. -/

open Sys2Proof Sys2Proof.Machine

/-! Reset (10_state.md R40, 70_reset_and_hazards.md R280, R281). -/

/-- 10_state.md R40, 70_reset_and_hazards.md R280: a reset puts every register to its value of the table, the unspecified
ones to the draws, from every state, halted or not, and does not change the stream. That the reset is an event of the
schedule that carries its draws (notes/assumptions/8.md), and that the model's own fields `sched` and `freePos` stay as
taking the event leaves them (notes/assumptions/4.md), is the model's choice. -/
def Obligations.ResetPutsEveryRegisterToItsTableValue : Prop :=
  ∀ (s : State) (d : ResetDraws), s.cfg.admitted = true → s.nextEvent = .reset d →
    step s = .next
      { cfg := s.cfg, stream := s.stream, cp := 0, ie := false, mode := .default, armed := false, tickPend := false,
        rainR := d.rainR, rainG := d.rainG, rainB := d.rainB, rainPh := d.rainPh, sample := d.sample, ready := false,
        adcBusy := false, adcPend := false, adcData := d.adcData, line := List.replicate s.cfg.nch false,
        strobe := false, resp := 0, out := [], halt := false, fcause := .none, fcp := 0, fcmd := 0,
        wire := List.replicate s.cfg.nch [], strobes := 0, sched := s.takeEvent.sched, freePos := s.takeEvent.freePos }

/-- 70_reset_and_hazards.md R281: the state after a reset, whatever the configuration, the stream and the draws, and that
`State.reset` is such a state; a first WAIT_READY with no STROBE_START before it faults. -/
def Obligations.AfterResetTheBlockIsQuiet : Prop :=
  (∀ (cfg : Config.Params) (stream : List Word) (d : ResetDraws),
    let s := State.atReset cfg stream d
    s.cp = 0 ∧ s.mode = .default ∧ s.armed = false ∧ s.tickPend = false ∧ s.ie = false ∧ s.ready = false ∧
    s.sample = d.sample ∧ s.adcBusy = false ∧ s.adcPend = false ∧ s.halt = false ∧
    exec .waitReady s = .next (s.enterFault .waitDeadlock)) ∧
  ∃ (cfg : Config.Params) (stream : List Word) (d : ResetDraws), State.reset = State.atReset cfg stream d

/-! Invariants (10_state.md R39). -/

/-- The state after reset meets the invariants of 10_state.md R39. -/
def Obligations.ResetStateMeetsTheInvariants : Prop := State.reset.Inv

/-- 10_state.md R39, first list, over every step from every state that meets it, resets included. -/
def Obligations.EveryStepKeepsTheInvariants : Prop :=
  ∀ s t : State, s.Inv → step s = .next t → t.Inv

/-- 10_state.md R39, second list: a step that is no reset keeps the colour-wheel invariant. -/
def Obligations.EveryStepKeepsTheWheelInvariant : Prop :=
  ∀ s t : State, s.WheelInv → (∀ d, s.nextEvent ≠ .reset d) → step s = .next t → t.WheelInv

/-- 43_animation.md R152 with R150: entering Rainbow puts the wheel at its seed, where the wheel invariant holds. -/
def Obligations.EnteringRainbowSeedsTheWheel : Prop :=
  ∀ s : State, s.cfg.admitted = true → s.mode ≠ .rainbow →
    ∃ t, exec (.setMode .rainbow) s = .next t ∧ t.rainR = 0 ∧ t.rainG.toNat = s.cfg.brightness ∧ t.rainB = 0 ∧
      t.rainPh = .green ∧ t.WheelInv

/-! Encoding (30_encoding.md R70 to R83). -/

/-- Words written out from the patterns of 30_encoding.md R75 and 95_test_vectors.md V1, on eight lines. -/
def Obligations.WrittenOutWordsDecode : Prop :=
  decode 8 [0x00000000] 0 = .ok .nop ∧
  decode 8 [0x17000001] 0 = .ok (.sendBit 7 true) ∧
  decode 8 [0x230000FF] 0 = .ok (.sendByte 3 0xFF) ∧
  decode 8 [0x31102030] 0 = .ok (.sendPixel 1 { r := 0x10, g := 0x20, b := 0x30 }) ∧
  decode 8 [0x40000001, 0x00ABCDEF] 0 = .ok (.frame 0 [{ r := 0xAB, g := 0xCD, b := 0xEF }]) ∧
  decode 8 [0x50000000] 0 = .ok .irqOff ∧
  decode 8 [0x70000000] 0 = .ok .strobeStart ∧
  decode 8 [0xB0000002] 0 = .ok (.setMode .rainbow) ∧
  decode 8 [0xD0000000] 0 = .ok .readStatus

/-- Decode and encode agree: every command of a block, its words anywhere in a stream, decodes to itself. -/
def Obligations.DecodeOfEncodeIsTheCommand : Prop :=
  ∀ (nch : Nat) (before after : List Word) (i : Instr), i.wf nch = true →
    decode nch (before ++ encode i ++ after) before.length = .ok i

/-- The other direction: the words a command was decoded from are the words the encoder writes for it, and it is a
command of the block. -/
def Obligations.DecodedWordsAreTheEncoding : Prop :=
  ∀ (nch : Nat) (stream : List Word) (cp : Nat) (i : Instr), decode nch stream cp = .ok i →
    i.wf nch = true ∧ (stream.drop cp).take i.length = encode i

/-- 30_encoding.md R78: the length of a command is found from its first word alone. -/
def Obligations.FirstWordGivesTheLength : Prop :=
  ∀ (nch : Nat) (stream : List Word) (cp : Nat) (i : Instr) (w : Word), decode nch stream cp = .ok i →
    stream[cp]? = some w →
    i.length = (if w.extractLsb' 28 4 = 0x4 then 1 + (w.extractLsb' 0 16).toNat else 1)

/-- 30_encoding.md R75: a word decodes to a command only where it matches that command's row of the opcode table, and
no other row. -/
def Obligations.DecodedWordMatchesItsRowOnly : Prop :=
  ∀ (nch : Nat) (stream : List Word) (cp : Nat) (i : Instr) (w : Word), decode nch stream cp = .ok i →
    stream[cp]? = some w → ∀ row ∈ opcodeTable, row.matches w = true ↔ row.mnemonic = i.mnemonic

/-- 30_encoding.md R76: on the words it lists, and on no others, the step of MAIN enters the ILLEGAL_CMD fault with no
other effect; on every other word it runs the command the word decodes to. -/
def Obligations.ExactlyTheListedWordsAreIllegal : Prop :=
  ∀ (s : State) (w : Word), s.MainAt w →
    let op := w.extractLsb' 28 4
    let ch := (w.extractLsb' 24 4).toNat
    let n := (w.extractLsb' 0 16).toNat
    let illegal :=
      (op = 0xE ∨ op = 0xF) ∨
      ((op = 0x0 ∨ op = 0x5 ∨ op = 0x6 ∨ op = 0x7 ∨ op = 0x8 ∨ op = 0x9 ∨ op = 0xA ∨ op = 0xC ∨ op = 0xD) ∧
        w.extractLsb' 0 28 ≠ 0) ∨
      (op = 0x1 ∧ w.extractLsb' 1 23 ≠ 0) ∨ (op = 0x2 ∧ w.extractLsb' 8 16 ≠ 0) ∨
      (op = 0x4 ∧ w.extractLsb' 16 8 ≠ 0) ∨ (op = 0xB ∧ w.extractLsb' 2 26 ≠ 0) ∨
      ((op = 0x1 ∨ op = 0x2 ∨ op = 0x3 ∨ op = 0x4) ∧ s.cfg.nch ≤ ch) ∨
      (op = 0xB ∧ w.extractLsb' 0 2 = 3) ∨
      (op = 0x4 ∧ s.stream.length ≤ s.cp + n) ∨
      (op = 0x4 ∧ ∃ k < n, ∃ x, memRead s (s.cp + 1 + k) = some x ∧ x.extractLsb' 24 8 ≠ 0)
    (illegal → ∃ t, step s = .next t ∧ FaultsInto s.takeEvent .illegalCmd w t) ∧
    (¬ illegal → ∃ i, decode s.cfg.nch s.stream s.cp = .ok i ∧ step s = exec i s.takeEvent)

/-! The step (10_state.md R21, R34, R38; 00_scope.md R9). -/

/-- On MAIN's turn, a word that decodes is run: the step is the command's meaning, on the state with the event taken. -/
def Obligations.StepRunsTheDecodedCommand : Prop :=
  ∀ (s : State) (i : Instr), s.Moves .main → decode s.cfg.nch s.stream s.cp = .ok i → step s = exec i s.takeEvent

/-- 10_state.md R38: at the end of the stream MAIN is not enabled; that its turn then moves nothing is the model's choice
(notes/assumptions/6.md). -/
def Obligations.MainRestsAtTheEndOfTheStream : Prop :=
  ∀ s : State, s.Moves .main → s.stream.length ≤ s.cp → step s = .next s.takeEvent

/-- 10_state.md R34, 60_exceptions.md R243: once `HALT` is 1 no agent steps, and only a reset clears it. The fault outcome
for no step (notes/assumptions/7.md) and the reset as an event (notes/assumptions/8.md) are the model's choices. -/
def Obligations.HaltedBlockOnlyResets : Prop :=
  ∀ s : State, s.cfg.admitted = true → s.halt = true →
    ((∀ d, s.nextEvent ≠ .reset d) → step s = .fault (.halted s.fcause)) ∧
    ∀ d, s.nextEvent = .reset d →
      ∃ t, step s = .next t ∧ t.halt = false ∧ t.fcause = .none ∧ t.fcp = 0 ∧ t.fcmd = 0

/-- 00_scope.md R9: a configuration outside the ranges of the R8 table is refused. -/
def Obligations.InadmissibleConfigurationIsRefused : Prop :=
  ∀ s : State,
    s.cfg.nch = 0 ∨ 16 < s.cfg.nch ∨ s.cfg.brightness = 0 ∨ 255 < s.cfg.brightness ∨
      s.cfg.rainStep = 0 ∨ 255 < s.cfg.rainStep ∨ s.cfg.nbands = 0 ∨ s.cfg.stripLength = 0 ∨
      s.cfg.accuracy < s.cfg.stripLength ∨ s.cfg.strips.length = 0 ∨ s.cfg.nch < s.cfg.strips.length →
    step s = .refused .configurationNotAdmitted

/-- 10_state.md R21: no step but a reset changes `cp` otherwise than by the length of a completed command, which is
MAIN's; a fault or a hold leaves it. -/
def Obligations.CpMovesByTheCommandsLength : Prop :=
  ∀ s t : State, step s = .next t → (∀ d, s.nextEvent ≠ .reset d) →
    t.cp = s.cp ∨
      (s.nextEvent = .main ∧ t.halt = false ∧
        ∃ i, decode s.cfg.nch s.stream s.cp = .ok i ∧ t.cp = s.cp + i.length ∧ t.cp ≤ s.stream.length)

/-- 20_memory.md R50, R65, 10_state.md R41: no step writes the command stream or the parameters. -/
def Obligations.NothingWritesTheStream : Prop :=
  ∀ s t : State, step s = .next t → t.cfg = s.cfg ∧ ∀ a, memRead t a = memRead s a

/-! Faults (60_exceptions.md R240 to R243). -/

/-- 60_exceptions.md R242: a fault writes the cause, `cp`, the command's first word and `HALT`, and nothing else; after it
no agent has a step, and it is no good end of a run. That the model says "no step" by the fault outcome `halted` is its
own choice (notes/assumptions/7.md). -/
def Obligations.FaultsArePrecise : Prop :=
  ∀ s t : State, step s = .next t → s.halt = false → t.halt = true →
    (∃ w, memRead s s.cp = some w ∧ t.fcause ≠ .none ∧ FaultsInto s.takeEvent t.fcause w t) ∧
    ((∀ d, t.nextEvent ≠ .reset d) → step t = .fault (.halted t.fcause)) ∧
    t.endedWell = false

/-- 60_exceptions.md R240: which fault a step of MAIN enters, and exactly when; no other agent enters one. -/
def Obligations.EachFaultHasItsCause : Prop :=
  ∀ s t : State, step s = .next t → s.halt = false →
    (t.halt = true ↔ s.nextEvent = .main ∧ s.cp < s.stream.length ∧
      ((∀ i, decode s.cfg.nch s.stream s.cp ≠ .ok i) ∨
       ∃ i, decode s.cfg.nch s.stream s.cp = .ok i ∧
        (((∃ ch v, i = .sendBit ch v) ∨ (∃ ch v, i = .sendByte ch v) ∨ ∃ ch p, i = .sendPixel ch p) ∧ s.ie = true ∨
         i = .strobeStart ∧ s.adcBusy = true ∨
         i = .takeSample ∧ s.ready = false ∨
         i = .waitReady ∧ s.ready = false ∧ (s.ie = false ∨ s.adcBusy = false ∧ s.adcPend = false)))) ∧
    (t.halt = true →
      (t.fcause = .illegalCmd ↔ ∀ i, decode s.cfg.nch s.stream s.cp ≠ .ok i) ∧
      (t.fcause = .unmaskedSend ↔ (∃ ch v, decode s.cfg.nch s.stream s.cp = .ok (.sendBit ch v)) ∨
        (∃ ch v, decode s.cfg.nch s.stream s.cp = .ok (.sendByte ch v)) ∨
        ∃ ch p, decode s.cfg.nch s.stream s.cp = .ok (.sendPixel ch p)) ∧
      (t.fcause = .adcBusyStart ↔ decode s.cfg.nch s.stream s.cp = .ok .strobeStart) ∧
      (t.fcause = .staleTake ↔ decode s.cfg.nch s.stream s.cp = .ok .takeSample) ∧
      (t.fcause = .waitDeadlock ↔ decode s.cfg.nch s.stream s.cp = .ok .waitReady))

/-- 60_exceptions.md R240: the code each fault records. -/
def Obligations.FaultCodesAreOneToFive : Prop :=
  FaultCause.none.code = 0 ∧ FaultCause.illegalCmd.code = 1 ∧ FaultCause.unmaskedSend.code = 2 ∧
  FaultCause.adcBusyStart.code = 3 ∧ FaultCause.staleTake.code = 4 ∧ FaultCause.waitDeadlock.code = 5

/-! The encoder (40_led_encoder.md R100 to R107). -/

/-- 40_led_encoder.md R102: SEND_BIT. The word, its illegal words, the fault with `IE = 1`, and, with `IE = 0`, one
burst of the one bit; nothing else changes. -/
def Obligations.SendBitSendsOneBit : Prop :=
  (∀ (s : State) (w : Word), s.MainAt w → w.extractLsb' 28 4 = 0x1 →
    if (w.extractLsb' 24 4).toNat < s.cfg.nch ∧ w.extractLsb' 1 23 = 0
    then step s = exec (.sendBit (w.extractLsb' 24 4) (w.getLsbD 0)) s.takeEvent
    else ∃ t, step s = .next t ∧ FaultsInto s.takeEvent .illegalCmd w t) ∧
  (∀ (s : State) (ch : BitVec 4) (v : Bit), s.ie = true → exec (.sendBit ch v) s = .next (s.enterFault .unmaskedSend)) ∧
  ∀ (s : State) (ch : BitVec 4) (v : Bit), s.ie = false →
    exec (.sendBit ch v) s = .next { s with
      wire := s.wire.modify ch.toNat (fun old => old ++ [[v]])
      line := s.line.set ch.toNat false
      cp := s.cp + 1 }

/-- 40_led_encoder.md R103: SEND_BYTE, most significant bit first. -/
def Obligations.SendByteSendsEightBitsMsbFirst : Prop :=
  (∀ (s : State) (w : Word), s.MainAt w → w.extractLsb' 28 4 = 0x2 →
    if (w.extractLsb' 24 4).toNat < s.cfg.nch ∧ w.extractLsb' 8 16 = 0
    then step s = exec (.sendByte (w.extractLsb' 24 4) (w.extractLsb' 0 8)) s.takeEvent
    else ∃ t, step s = .next t ∧ FaultsInto s.takeEvent .illegalCmd w t) ∧
  (∀ (s : State) (ch : BitVec 4) (v : Byte), s.ie = true →
    exec (.sendByte ch v) s = .next (s.enterFault .unmaskedSend)) ∧
  ∀ (s : State) (ch : BitVec 4) (v : Byte), s.ie = false →
    exec (.sendByte ch v) s = .next { s with
      wire := s.wire.modify ch.toNat (fun old => old ++ [[v.getLsbD 7, v.getLsbD 6, v.getLsbD 5, v.getLsbD 4,
        v.getLsbD 3, v.getLsbD 2, v.getLsbD 1, v.getLsbD 0]])
      line := s.line.set ch.toNat false
      cp := s.cp + 1 }

/-- 40_led_encoder.md R104: SEND_PIXEL sends the 24 bits of its operand word, bit 23 first. -/
def Obligations.SendPixelSendsTwentyFourBits : Prop :=
  (∀ (s : State) (w : Word), s.MainAt w → w.extractLsb' 28 4 = 0x3 →
    if (w.extractLsb' 24 4).toNat < s.cfg.nch then
      step s = exec (.sendPixel (w.extractLsb' 24 4)
        { r := w.extractLsb' 16 8, g := w.extractLsb' 8 8, b := w.extractLsb' 0 8 }) s.takeEvent ∧
      (s.ie = false → step s = .next { s.takeEvent with
        wire := s.wire.modify (w.extractLsb' 24 4).toNat
          (fun old => old ++ [(List.range 24).map (fun k => w.getLsbD (23 - k))])
        line := s.line.set (w.extractLsb' 24 4).toNat false
        cp := s.cp + 1 })
    else ∃ t, step s = .next t ∧ FaultsInto s.takeEvent .illegalCmd w t) ∧
  (∀ (s : State) (ch : BitVec 4) (p : Rgb), s.ie = true →
    exec (.sendPixel ch p) s = .next (s.enterFault .unmaskedSend)) ∧
  ∀ (s : State) (ch : BitVec 4) (p : Rgb), s.ie = false →
    exec (.sendPixel ch p) s = .next { s with
      wire := s.wire.modify ch.toNat (fun old => old ++
        [(List.range 8).map (fun k => p.r.getLsbD (7 - k)) ++ (List.range 8).map (fun k => p.g.getLsbD (7 - k)) ++
          (List.range 8).map (fun k => p.b.getLsbD (7 - k))])
      line := s.line.set ch.toNat false
      cp := s.cp + 1 }

/-- 40_led_encoder.md R105: FRAME, from its header and data words in the stream. With every data word there and well
formed it sends one burst of their 24-bit colours in order, bit 23 first (nothing for `n = 0`), leaves `IE = 1`
whatever it was, and moves past its data words; otherwise ILLEGAL_CMD with no other effect. -/
def Obligations.FrameSendsItsDataWordsAsOneBurst : Prop :=
  (∀ (s : State) (w : Word), s.MainAt w → w.extractLsb' 28 4 = 0x4 →
    let ch := (w.extractLsb' 24 4).toNat
    let n := (w.extractLsb' 0 16).toNat
    if ch < s.cfg.nch ∧ w.extractLsb' 16 8 = 0 ∧ s.cp + n < s.stream.length ∧
        ∀ k < n, ((memRead s (s.cp + 1 + k)).getD 0).extractLsb' 24 8 = 0
    then step s = .next { s.takeEvent with
      ie := true
      wire := if n = 0 then s.wire else s.wire.modify ch (fun old => old ++
        [(List.range n).flatMap (fun k => (List.range 24).map (fun j =>
          ((memRead s (s.cp + 1 + k)).getD 0).getLsbD (23 - j)))])
      line := if n = 0 then s.line else s.line.set ch false
      cp := s.cp + 1 + n }
    else ∃ t, step s = .next t ∧ FaultsInto s.takeEvent .illegalCmd w t) ∧
  ∀ (s : State) (ch : BitVec 4) (px : List Rgb),
    exec (.frame ch px) s = .next { s with
      ie := true
      wire := if px = [] then s.wire else s.wire.modify ch.toNat (fun old => old ++
        [px.flatMap (fun p => (List.range 8).map (fun k => p.r.getLsbD (7 - k)) ++
          (List.range 8).map (fun k => p.g.getLsbD (7 - k)) ++ (List.range 8).map (fun k => p.b.getLsbD (7 - k)))])
      line := if px = [] then s.line else s.line.set ch.toNat false
      cp := s.cp + 1 + px.length }

/-- 10_state.md R35, 40_led_encoder.md R101: a step other than a reset only appends to a wire trace, at most one burst on
at most one line, and only on MAIN's turn; the lines' levels are as before or low. -/
def Obligations.WireTracesOnlyGrowByOneBurst : Prop :=
  ∀ s t : State, s.Inv → step s = .next t → (∀ d, s.nextEvent ≠ .reset d) →
    (∀ ch, t.lineOf ch = false) ∧
    ((∀ ch, t.wireOf ch = s.wireOf ch) ∨
     (s.nextEvent = .main ∧ ∃ ch bits, ch < s.cfg.nch ∧ bits ≠ [] ∧ t.wireOf ch = s.wireOf ch ++ [bits] ∧
       ∀ c, c ≠ ch → t.wireOf c = s.wireOf c))

/-- 40_led_encoder.md R106: the wave of a burst has one high phase a bit, each exactly the high time of its bit and
followed by exactly its low time (R100), back to back. -/
def Obligations.BurstWaveIsItsSymbolsBackToBack : Prop :=
  ∀ (cfg : Config.Params) (bits : Burst) (k : Nat) (b : Bit), bits[k]? = some b →
    (burstWave cfg bits).length = 2 * bits.length ∧
    (burstWave cfg bits)[2 * k]? = some (true, if b then cfg.t1h else cfg.t0h) ∧
    (burstWave cfg bits)[2 * k + 1]? = some (false, if b then cfg.t1l else cfg.t0l)

/-- 70_reset_and_hazards.md R301: with the source's phase times, a burst of N bits of which K are 1s lasts
1.15 N + 0.15 K microseconds, so a pixel 27.6 to 31.2 and a frame of n pixels n times that (in nanoseconds here). -/
def Obligations.TransmissionTimeFormula : Prop :=
  ∀ cfg : Config.Params, cfg.t1h = 700 → cfg.t1l = 600 → cfg.t0h = 350 → cfg.t0l = 800 →
    (∀ bits : Burst, burstTime cfg bits = 1150 * bits.length + 150 * bits.count true) ∧
    (∀ v : Byte, 9200 ≤ burstTime cfg (byteBits v) ∧ burstTime cfg (byteBits v) ≤ 10400) ∧
    ∀ px : List Rgb, 27600 * px.length ≤ burstTime cfg (frameBits px) ∧
      burstTime cfg (frameBits px) ≤ 31200 * px.length

/-! Masking (41_irq_mask.md R120 to R122, 10_state.md R22). -/

/-- 41_irq_mask.md R120: IRQ_OFF. -/
def Obligations.IrqOffClearsTheEnable : Prop :=
  RunsAs 0x50000000 .irqOff ∧ (∀ w : Word, w.extractLsb' 28 4 = 0x5 → w.extractLsb' 0 28 ≠ 0 → RaisesIllegal w) ∧
  ∀ s : State, exec .irqOff s = .next { s with ie := false, cp := s.cp + 1 }

/-- 41_irq_mask.md R121: IRQ_ON. -/
def Obligations.IrqOnSetsTheEnable : Prop :=
  RunsAs 0x60000000 .irqOn ∧ (∀ w : Word, w.extractLsb' 28 4 = 0x6 → w.extractLsb' 0 28 ≠ 0 → RaisesIllegal w) ∧
  ∀ s : State, exec .irqOn s = .next { s with ie := true, cp := s.cp + 1 }

/-- 10_state.md R22: only IRQ_OFF, IRQ_ON and FRAME write `IE`; and 60_exceptions.md R251: no handler does. -/
def Obligations.OnlyMaskCommandsAndFrameWriteIe : Prop :=
  ∀ s t : State, step s = .next t → (∀ d, s.nextEvent ≠ .reset d) → t.ie ≠ s.ie →
    s.nextEvent = .main ∧
      (decode s.cfg.nch s.stream s.cp = .ok .irqOff ∨ decode s.cfg.nch s.stream s.cp = .ok .irqOn ∨
        ∃ ch px, decode s.cfg.nch s.stream s.cp = .ok (.frame ch px))

/-- 20_memory.md R63: while `IE = 0` no handler acts: a handler's turn moves nothing (the model's choice for an agent
that is not enabled, notes/assumptions/6.md), and whatever step but a reset is
taken, `SAMPLE` stays, `READY` is not set and no pending completion is cleared. -/
def Obligations.MaskedHandlersDoNotAct : Prop :=
  ∀ s t : State, s.ie = false → step s = .next t → (∀ d, s.nextEvent ≠ .reset d) →
    ((s.nextEvent = .adcIsr ∨ s.nextEvent = .tickIsr) → t = s.takeEvent) ∧
    t.sample = s.sample ∧ (t.ready = true → s.ready = true) ∧ (s.adcPend = true → t.adcPend = true)

/-! The sampler (42_sampler.md R130 to R139). -/

/-- 42_sampler.md R130: STROBE_START. -/
def Obligations.StrobeStartPulsesAndStartsAConversion : Prop :=
  RunsAs 0x70000000 .strobeStart ∧ (∀ w : Word, w.extractLsb' 28 4 = 0x7 → w.extractLsb' 0 28 ≠ 0 → RaisesIllegal w) ∧
  (∀ s : State, s.adcBusy = true → exec .strobeStart s = .next (s.enterFault .adcBusyStart)) ∧
  ∀ s : State, s.adcBusy = false →
    exec .strobeStart s = .next { s with strobe := false, strobes := s.strobes + 1, adcBusy := true, cp := s.cp + 1 }

/-- 42_sampler.md R131: IS_READY. -/
def Obligations.IsReadyReportsTheFlag : Prop :=
  RunsAs 0x80000000 .isReady ∧ (∀ w : Word, w.extractLsb' 28 4 = 0x8 → w.extractLsb' 0 28 ≠ 0 → RaisesIllegal w) ∧
  ∀ s : State,
    exec .isReady s = .next { s with
      resp := if s.ready then 1 else 0
      out := s.out ++ [if s.ready then 1 else 0]
      cp := s.cp + 1 }

/-- 42_sampler.md R132: TAKE_SAMPLE. -/
def Obligations.TakeSampleReturnsAndClears : Prop :=
  RunsAs 0x90000000 .takeSample ∧ (∀ w : Word, w.extractLsb' 28 4 = 0x9 → w.extractLsb' 0 28 ≠ 0 → RaisesIllegal w) ∧
  (∀ s : State, s.ready = false → exec .takeSample s = .next (s.enterFault .staleTake)) ∧
  ∀ s : State, s.ready = true →
    exec .takeSample s = .next { s with
      resp := BitVec.ofNat 32 s.sample.toNat
      out := s.out ++ [BitVec.ofNat 32 s.sample.toNat]
      ready := false
      cp := s.cp + 1 }

/-- 42_sampler.md R133: WAIT_READY passes, faults or holds. The rule gives a holding MAIN no step; that its turn answers the
state unchanged is the model's choice (notes/assumptions/21.md). -/
def Obligations.WaitReadyPassesFaultsOrHolds : Prop :=
  RunsAs 0xA0000000 .waitReady ∧ (∀ w : Word, w.extractLsb' 28 4 = 0xA → w.extractLsb' 0 28 ≠ 0 → RaisesIllegal w) ∧
  (∀ s : State, s.ready = true → exec .waitReady s = .next { s with cp := s.cp + 1 }) ∧
  (∀ s : State, s.ready = false → s.ie = false ∨ s.adcBusy = false ∧ s.adcPend = false →
    exec .waitReady s = .next (s.enterFault .waitDeadlock)) ∧
  ∀ s : State, s.ready = false → s.ie = true → s.adcBusy = true ∨ s.adcPend = true → exec .waitReady s = .next s

/-- 42_sampler.md R133: the deadlock is certain. Where WAIT_READY raises WAIT_DEADLOCK, no step of an agent other than
MAIN sets `READY` or ends that condition. -/
def Obligations.DeadlockedWaitCannotBeEnded : Prop :=
  ∀ s t : State, s.ready = false → s.ie = false ∨ s.adcBusy = false ∧ s.adcPend = false → step s = .next t →
    s.nextEvent ≠ .main → (∀ d, s.nextEvent ≠ .reset d) →
    t.ready = false ∧ (t.ie = false ∨ t.adcBusy = false ∧ t.adcPend = false)

/-- 42_sampler.md R136: a conversion completes, whatever `IE` is; where none is in progress the converter has no step:
that its turn then answers the state unmoved is the model's choice (notes/assumptions/6.md). -/
def Obligations.ConversionCompletes : Prop :=
  ∀ (s : State) (v : Byte), s.Moves (.adc v) →
    (s.adcBusy = true → step s = .next { s.takeEvent with adcData := v, adcBusy := false, adcPend := true }) ∧
    (s.adcBusy = false → step s = .next s.takeEvent)

/-- 42_sampler.md R137: the completion handler. That its turn answers the state unmoved where it is not enabled is the
model's choice (notes/assumptions/6.md). -/
def Obligations.CompletionHandlerPublishesTheSample : Prop :=
  ∀ s : State, s.Moves .adcIsr →
    (s.ie = true ∧ s.adcPend = true →
      step s = .next { s.takeEvent with sample := s.adcData, ready := true, adcPend := false }) ∧
    (s.ie = false ∨ s.adcPend = false → step s = .next s.takeEvent)

/-- 42_sampler.md R139: one producer and one consumer. Only the completion handler writes `SAMPLE` or sets `READY`, and
with its value; only TAKE_SAMPLE clears `READY`. -/
def Obligations.MailboxHasOneProducerOneConsumer : Prop :=
  ∀ s t : State, step s = .next t → (∀ d, s.nextEvent ≠ .reset d) →
    (t.sample ≠ s.sample ∨ (s.ready = false ∧ t.ready = true) →
      s.nextEvent = .adcIsr ∧ t.sample = s.adcData ∧ t.ready = true) ∧
    (s.ready = true → t.ready = false →
      s.nextEvent = .main ∧ decode s.cfg.nch s.stream s.cp = .ok .takeSample ∧
        t.resp = BitVec.ofNat 32 s.sample.toNat)

/-- 42_sampler.md R133 with R136 and R137: in a fair run without resets, with a converter that does not stall, a
WAIT_READY that holds gets its sample: `READY` comes to be 1 while MAIN still stands at that WAIT_READY. Fairness as a
predicate on infinite runs is the model's form (notes/assumptions/16.md), and that such a run may have turns of agents with
no step, which leave the state unmoved, its choice (notes/assumptions/6.md, 21.md). -/
def Obligations.HoldingWaitGetsItsSampleInAFairRun : Prop :=
  ∀ r : Nat → State, FairRun r → NoReset r → (r 0).cfg.admitted = true → (r 0).cfg.adcMayStall = false →
    (r 0).halt = false → (r 0).ie = true → (r 0).ready = false → ((r 0).adcBusy = true ∨ (r 0).adcPend = true) →
    decode (r 0).cfg.nch (r 0).stream (r 0).cp = .ok .waitReady →
    ∃ n, (r n).ready = true ∧ (r n).cp = (r 0).cp ∧ (r n).halt = false ∧
      ∀ m < n, (r m).ready = false ∧ (r m).cp = (r 0).cp

/-- 70_reset_and_hazards.md R295: in a run in which, up to its n-th state, neither the converter's turn nor a reset comes,
a WAIT_READY on a running conversion still holds there, and no fault was raised: there is no timeout. That the run has
turns of agents with no step, which leave the state unmoved, is the model's choice (notes/assumptions/6.md, 21.md). -/
def Obligations.WaitHoldsWhileTheConverterStalls : Prop :=
  ∀ (r : Nat → State) (n : Nat), IsRun r → (r 0).cfg.admitted = true → (r 0).halt = false → (r 0).ie = true →
    (r 0).ready = false → (r 0).adcBusy = true → (r 0).adcPend = false →
    decode (r 0).cfg.nch (r 0).stream (r 0).cp = .ok .waitReady →
    (∀ m < n, (∀ v, (r m).nextEvent ≠ .adc v) ∧ ∀ d, (r m).nextEvent ≠ .reset d) →
    (r n).halt = false ∧ (r n).cp = (r 0).cp ∧ (r n).ready = false ∧ (r n).adcBusy = true ∧
      decode (r n).cfg.nch (r n).stream (r n).cp = .ok .waitReady

/-! Mode and animation (43_animation.md R150 to R158). -/

/-- 43_animation.md R150: SET_MODE. -/
def Obligations.SetModeArmsOrDisarmsTheTimer : Prop :=
  RunsAs 0xB0000000 (.setMode .default) ∧ RunsAs 0xB0000001 (.setMode .shine) ∧
  RunsAs 0xB0000002 (.setMode .rainbow) ∧
  (∀ w : Word, w.extractLsb' 28 4 = 0xB → w.extractLsb' 2 26 ≠ 0 ∨ w.extractLsb' 0 2 = 3 → RaisesIllegal w) ∧
  (∀ (s : State) (m : Mode), m ≠ .rainbow →
    exec (.setMode m) s = .next { s with mode := m, armed := false, tickPend := false, cp := s.cp + 1 }) ∧
  (∀ s : State, s.mode ≠ .rainbow ∨ s.cfg.reseedOnRepeat = true →
    exec (.setMode .rainbow) s = .next { s with
      mode := .rainbow
      armed := true
      rainR := 0
      rainG := BitVec.ofNat 8 s.cfg.brightness
      rainB := 0
      rainPh := .green
      cp := s.cp + 1 }) ∧
  ∀ s : State, s.mode = .rainbow → s.cfg.reseedOnRepeat = false →
    exec (.setMode .rainbow) s = .next { s with mode := .rainbow, armed := true, cp := s.cp + 1 }

/-- 43_animation.md R151: READ_RAINBOW returns the three channels as one word, and takes no side. -/
def Obligations.ReadRainbowReturnsOneSnapshot : Prop :=
  RunsAs 0xC0000000 .readRainbow ∧ (∀ w : Word, w.extractLsb' 28 4 = 0xC → w.extractLsb' 0 28 ≠ 0 → RaisesIllegal w) ∧
  ∀ s : State, ∃ v : Word,
    v.toNat = s.rainR.toNat * 65536 + s.rainG.toNat * 256 + s.rainB.toNat ∧
    exec .readRainbow s = .next { s with resp := v, out := s.out ++ [v], cp := s.cp + 1 }

/-- 10_state.md R23, R24: only SET_MODE writes `MODE` and `ARMED`. -/
def Obligations.OnlySetModeWritesModeAndArmed : Prop :=
  ∀ s t : State, step s = .next t → (∀ d, s.nextEvent ≠ .reset d) → t.mode ≠ s.mode ∨ t.armed ≠ s.armed →
    s.nextEvent = .main ∧ ∃ m, decode s.cfg.nch s.stream s.cp = .ok (.setMode m) ∧ t.mode = m ∧
      (t.armed = true ↔ m = .rainbow)

/-- 43_animation.md R153: the timer marks one tick, whatever `IE` is; a firing while one is pending, or while disarmed,
has no effect. That the turn of a timer that is not enabled answers the state unmoved is the model's choice
(notes/assumptions/6.md). -/
def Obligations.TimerMarksOneTick : Prop :=
  ∀ s : State, s.Moves .timer →
    (s.armed = true ∧ s.tickPend = false → step s = .next { s.takeEvent with tickPend := true }) ∧
    (s.armed = false ∨ s.tickPend = true → step s = .next s.takeEvent)

/-- 43_animation.md R154, R155: the tick handler clears the pending tick and moves the wheel one step: the decreasing
channel by `min(S, RAIN[d])`, the increasing one by `min(S, B - RAIN[i])` below `B` and not at all from there on, the
third not touched, the phase on the tick that reaches 0; nothing else changes. Without a pending tick, or masked, there
is no step: that the turn then answers the state unmoved is the model's choice (notes/assumptions/6.md). -/
def Obligations.TickHandlerMovesTheWheelOneStep : Prop :=
  ∀ s : State, s.Moves .tickIsr →
    (s.ie = false ∨ s.tickPend = false → step s = .next s.takeEvent) ∧
    (s.ie = true ∧ s.tickPend = true →
      ∃ t, step s = .next t ∧
        t = { s.takeEvent with
          tickPend := false, rainR := t.rainR, rainG := t.rainG, rainB := t.rainB, rainPh := t.rainPh } ∧
        let d := s.rainPh
        let i := s.rainPh.next
        (t.rain d).toNat = (s.rain d).toNat - min s.cfg.rainStep (s.rain d).toNat ∧
        (t.rain i).toNat = (s.rain i).toNat +
          (if (s.rain i).toNat < s.cfg.brightness then min s.cfg.rainStep (s.cfg.brightness - (s.rain i).toNat) else 0) ∧
        t.rain i.next = s.rain i.next ∧
        t.rainPh = if (t.rain d).toNat = 0 then i else d)

/-- 43_animation.md R156: the wheel is periodic. From the seed every phase takes `ceil(B / S)` ticks, the channels of
phase d after k of them are `B - min(B, k S)` and `min(B, k S)`, the wheel invariant holds throughout, and after
`3 ceil(B / S)` ticks the state is the seed's again. -/
def Obligations.WheelReturnsToItsSeed : Prop :=
  ∀ s : State, s.cfg.admitted = true →
    let p := (s.cfg.brightness + s.cfg.rainStep - 1) / s.cfg.rainStep
    (∀ k, (adv^[k] (seed s)).WheelInv) ∧
    (∀ k < p, (adv^[k] (seed s)).rainPh = .green ∧ (adv^[p + k] (seed s)).rainPh = .blue ∧
      (adv^[2 * p + k] (seed s)).rainPh = .red) ∧
    (∀ k < p, ((adv^[k] (seed s)).rain .blue).toNat = k * s.cfg.rainStep ∧
      ((adv^[p + k] (seed s)).rain .red).toNat = k * s.cfg.rainStep ∧
      ((adv^[2 * p + k] (seed s)).rain .green).toNat = k * s.cfg.rainStep) ∧
    adv^[3 * p] (seed s) = seed s

/-- 43_animation.md R158: outside Rainbow mode no step changes the colour but a SET_MODE 2. -/
def Obligations.NoTickOutsideRainbow : Prop :=
  ∀ s t : State, s.Inv → s.mode ≠ .rainbow → step s = .next t → (∀ d, s.nextEvent ≠ .reset d) →
    (s.nextEvent = .main ∧ decode s.cfg.nch s.stream s.cp = .ok (.setMode .rainbow)) ∨
    (t.rainR = s.rainR ∧ t.rainG = s.rainG ∧ t.rainB = s.rainB ∧ t.rainPh = s.rainPh ∧ t.tickPend = false)

/-- 60_exceptions.md R252: the two handlers commute; where both are enabled, taken in either order they reach the same
state. The statement also covers a handler that is masked or has nothing pending, of which R252 does not speak: that its
turn answers the state unmoved is the model's choice (notes/assumptions/6.md), as is the schedule that puts the two turns
next to each other (notes/assumptions/4.md). -/
def Obligations.HandlersCommute : Prop :=
  ∀ (s : State) (rest : List Event), s.cfg.admitted = true → s.halt = false →
    ∃ a b t : State,
      step { s with sched := .adcIsr :: .tickIsr :: rest } = .next a ∧ step a = .next t ∧
      step { s with sched := .tickIsr :: .adcIsr :: rest } = .next b ∧ step b = .next t

/-! Control (44_control.md R170, R171). -/

/-- 44_control.md R170: NOP. -/
def Obligations.NopOnlyAdvances : Prop :=
  RunsAs 0x00000000 .nop ∧ (∀ w : Word, w.extractLsb' 28 4 = 0x0 → w.extractLsb' 0 28 ≠ 0 → RaisesIllegal w) ∧
  ∀ s : State, exec .nop s = .next { s with cp := s.cp + 1 }

/-- 44_control.md R171, 10_state.md R36: READ_STATUS returns the status word, laid out as the rule gives it. -/
def Obligations.ReadStatusReturnsTheFlags : Prop :=
  RunsAs 0xD0000000 .readStatus ∧ (∀ w : Word, w.extractLsb' 28 4 = 0xD → w.extractLsb' 0 28 ≠ 0 → RaisesIllegal w) ∧
  ∀ s : State, ∃ v : Word,
    exec .readStatus s = .next { s with resp := v, out := s.out ++ [v], cp := s.cp + 1 } ∧
    v.getLsbD 0 = s.ie ∧
    v.extractLsb' 1 2 = (match s.mode with | .default => 0 | .shine => 1 | .rainbow => 2) ∧
    v.getLsbD 3 = s.armed ∧ v.getLsbD 4 = s.tickPend ∧ v.getLsbD 5 = s.ready ∧ v.getLsbD 6 = s.adcBusy ∧
    v.getLsbD 7 = s.adcPend ∧ v.extractLsb' 8 24 = 0

/-- 10_state.md R33: only the four reading commands answer; each appends its answer to `OUT` and leaves it in `RESP`. -/
def Obligations.OnlyReadingCommandsRespond : Prop :=
  ∀ s t : State, step s = .next t → (∀ d, s.nextEvent ≠ .reset d) →
    (t.resp = s.resp ∧ t.out = s.out) ∨
    (t.out = s.out ++ [t.resp] ∧ s.nextEvent = .main ∧
      (decode s.cfg.nch s.stream s.cp = .ok .isReady ∨ decode s.cfg.nch s.stream s.cp = .ok .takeSample ∨
        decode s.cfg.nch s.stream s.cp = .ok .readRainbow ∨ decode s.cfg.nch s.stream s.cp = .ok .readStatus))

/-! The end of a run (70_reset_and_hazards.md R285). -/

/-- 70_reset_and_hazards.md R285: a run that has ended well stays ended: after it only TIMER and TICK_ISR have steps, and
they move only the pending tick and the rainbow registers. -/
def Obligations.EndedRunOnlyTicks : Prop :=
  ∀ s t : State, s.endedWell = true → step s = .next t → (∀ d, s.nextEvent ≠ .reset d) →
    t.endedWell = true ∧
    t.observed = { s.observed with
      tickPend := t.tickPend, rainR := t.rainR, rainG := t.rainG, rainB := t.rainB, rainPh := t.rainPh }

/-! The reference host (48_host_display.md). -/

/-- 48_host_display.md R212: the mapped count is within the strip for every sample exactly when the largest sample's
is. -/
def Obligations.LitCountBoundIsItsLargestSample : Prop :=
  ∀ (cfg : Config.Params) (pixelCount : Nat), cfg.admitted = true →
    ((∀ s : Byte, litCountOf cfg s ≤ pixelCount) ↔ 255 / (cfg.accuracy / cfg.stripLength) ≤ pixelCount)

/-- 48_host_display.md R209: the Shine ramp's levels, and that it does not decrease toward the edge. -/
def Obligations.ShineRampDoesNotDecrease : Prop :=
  ∀ bright l : Nat,
    (3 ≤ l → shineLevel bright (l - 3) l = bright / 9) ∧ (2 ≤ l → shineLevel bright (l - 2) l = 4 * (bright / 9)) ∧
    (1 ≤ l → shineLevel bright (l - 1) l = 9 * (bright / 9)) ∧ (∀ i, i + 3 < l → shineLevel bright i l = 0) ∧
    ∀ i j, i ≤ j → j < l → shineLevel bright i l ≤ shineLevel bright j l

/-- 48_host_display.md R203: the three tiers of Default mode and the off pixels, on a render's pixel list. -/
def Obligations.DefaultRenderHasItsTiers : Prop :=
  ∀ (cfg : Config.Params) (snap : Rgb) (k : HostStrip) (i : Nat), i < k.pixelCount →
    (renderColours cfg .default snap k)[i]? = some (
      if k.litCount ≤ i then { r := 0, g := 0, b := 0 }
      else if i + 1 = k.pixelCount then { r := BitVec.ofNat 8 cfg.brightness, g := 0, b := 0 }
      else if k.pixelCount ≤ i + 3 then
        { r := BitVec.ofNat 8 cfg.brightness, g := BitVec.ofNat 8 cfg.brightness, b := 0 }
      else { r := 0, g := BitVec.ofNat 8 cfg.brightness, b := 0 })

/-- 48_host_display.md R202: the skip rule, once the strip's sample is read and the next conversion started: the new
count is stored in either case, and no other strip's; a FRAME on the strip's line is the next command outside Rainbow,
and the one after a READ_RAINBOW in Rainbow, unless the count is the stored one outside Rainbow, where the host goes on to
the next strip. The FRAME for the strip's pixels is R206, the READ_RAINBOW right before it R207, the next strip in the fixed
round-robin order R210. Two points are the model's choices (notes/assumptions/17.md): the host as a machine beside the
block, with the phase it stands at; and one FRAME for a strip of any pixel count, above the 65535 that a FRAME can carry
too. -/
def Obligations.SkipRuleDecidesTheFrame : Prop :=
  ∀ (cfg : Config.Params) (h : HostState) (s : Byte) (resp : Word), h.phase = .strobe s →
    h.current < h.strips.length →
    let t := hostAfter cfg h resp
    let same := litCountOf cfg s = h.strip.litCount
    t.strips[h.current]? = some { h.strip with litCount := litCountOf cfg s } ∧
    (∀ j, j ≠ h.current → t.strips[j]? = h.strips[j]?) ∧
    (same ∧ h.mode ≠ .rainbow →
      hostCommand cfg t = .waitReady ∧
        t.current = if h.current + 1 < h.strips.length then h.current + 1 else 0) ∧
    (¬ same ∧ h.mode ≠ .rainbow →
      ∃ px, px.length = h.strip.pixelCount ∧ hostCommand cfg t = .frame (BitVec.ofNat 4 h.strip.chan) px) ∧
    (h.mode = .rainbow → hostCommand cfg t = .readRainbow ∧ ∀ r, ∃ px, px.length = h.strip.pixelCount ∧
      hostCommand cfg (hostAfter cfg t r) = .frame (BitVec.ofNat 4 h.strip.chan) px)

/-- 48_host_display.md R200, R206, R210, 30_encoding.md R73: every command the host issues, at boot and in its cycles,
whatever the block answers, is a command of the block, when no strip has more pixels than a FRAME can carry; and a command
the host writes to a rig's block is the one the block decodes next. The host as a machine beside the block, and the rig in
which it writes one command after another at the end of the stream, are the model's choices (notes/assumptions/17.md). -/
def Obligations.HostIssuesLegalCommandsOnly : Prop :=
  (∀ (cfg : Config.Params) (m : Mode) (answers : Nat → Word) (n : Nat), cfg.admitted = true →
    (∀ k ∈ cfg.strips, k.pixelCount ≤ 65535) → (hostIssues cfg m answers n).wf cfg.nch = true) ∧
  ∀ g : Rig, g.commandDone = true →
    let next := hostCommand g.block.cfg (hostAfter g.block.cfg g.host g.block.resp)
    next.wf g.block.cfg.nch = true →
    decode g.hostTurn.block.cfg.nch g.hostTurn.block.stream g.hostTurn.block.cp = .ok next

/-- 48_host_display.md R210, with R211, R207 and the boot of 70_reset_and_hazards.md R283: whatever the block answers,
the host issues SET_MODE once, first, then IRQ_ON and STROBE_START, and then one turn after another, the j-th for strip j
modulo the number of strips: WAIT_READY, TAKE_SAMPLE, STROBE_START; the sample is bits 7:0 of the TAKE_SAMPLE's answer, its count is stored; in Rainbow it issues
READ_RAINBOW and a FRAME that shows bits 23:0 of its answer on every pixel below the count; otherwise a FRAME in the
mode's colours if the count has changed, and nothing if not. Three points are the model's choices
(notes/assumptions/17.md): the host as a machine beside the block; SET_MODE before IRQ_ON at boot, which
70_reset_and_hazards.md R283 lets a host swap; and one FRAME for a strip of any pixel count, above the 65535 that a FRAME
can carry too. -/
def Obligations.HostBootsOnceThenCyclesOverItsStrips : Prop :=
  ∀ (cfg : Config.Params) (m : Mode) (answers : Nat → Word), cfg.admitted = true →
    hostIssues cfg m answers 0 = .setMode m ∧ hostIssues cfg m answers 1 = .irqOn ∧
    hostIssues cfg m answers 2 = .strobeStart ∧
    (∀ n m', 1 ≤ n → hostIssues cfg m answers n ≠ .setMode m') ∧
    ∃ begins : Nat → Nat, begins 0 = 3 ∧
      ∀ (j : Nat) (k : Config.StripParams) (old : HostStrip),
        cfg.strips[j % cfg.strips.length]? = some k →
        (hostAt cfg m answers (begins j)).strips[j % cfg.strips.length]? = some old →
        let n := begins j
        let l := litCountOf cfg ((answers (n + 1)).extractLsb' 0 8)
        old.chan = k.chan ∧ old.pixelCount = k.pixelCount ∧
        hostIssues cfg m answers n = .waitReady ∧ hostIssues cfg m answers (n + 1) = .takeSample ∧
        hostIssues cfg m answers (n + 2) = .strobeStart ∧
        (hostAt cfg m answers (n + 3)).strips[j % cfg.strips.length]? = some { old with litCount := l } ∧
        (m = .rainbow →
          hostIssues cfg m answers (n + 3) = .readRainbow ∧
          hostIssues cfg m answers (n + 4) = .frame (BitVec.ofNat 4 k.chan)
            ((List.range k.pixelCount).map (fun i =>
              if i < l then
                { r := (answers (n + 3)).extractLsb' 16 8, g := (answers (n + 3)).extractLsb' 8 8,
                  b := (answers (n + 3)).extractLsb' 0 8 }
              else { r := 0, g := 0, b := 0 })) ∧
          begins (j + 1) = n + 5) ∧
        (m = .default ∧ l ≠ old.litCount →
          hostIssues cfg m answers (n + 3) = .frame (BitVec.ofNat 4 k.chan)
            ((List.range k.pixelCount).map (fun i => colourDefault cfg.brightness i l k.pixelCount)) ∧
          begins (j + 1) = n + 4) ∧
        (m = .shine ∧ l ≠ old.litCount →
          hostIssues cfg m answers (n + 3) = .frame (BitVec.ofNat 4 k.chan)
            ((List.range k.pixelCount).map (fun i => colourShine cfg.brightness i l)) ∧
          begins (j + 1) = n + 4) ∧
        (m ≠ .rainbow ∧ l = old.litCount → begins (j + 1) = n + 3)
end

