-- ==== Sys2Proof/Laws/Encoding.lean ====
section
/-! SUPPORT. The fields of the words the encoder writes (30_encoding.md R70 to R72). -/

namespace Sys2Proof.Laws

/-- The bits of a command word, field by field (R70). -/
theorem getLsbD_commandWord (op ch : BitVec 4) (imm : BitVec 24) (j : Nat) :
    (commandWord op ch imm).getLsbD j =
      if j < 24 then imm.getLsbD j else if j < 28 then ch.getLsbD (j - 24) else op.getLsbD (j - 28) := by
  simp only [commandWord, BitVec.getLsbD_or, BitVec.getLsbD_shiftLeft, BitVec.getLsbD_setWidth]
  by_cases h1 : j < 24
  · have h2 : j < 28 := by omega
    have h3 : j < 32 := by omega
    simp [h1, h2, h3]
  · have h0 : imm.getLsbD j = false := BitVec.getLsbD_of_ge _ _ (by omega)
    by_cases h2 : j < 28
    · have h3 : j < 32 := by omega
      have h4 : j - 24 < 32 := by omega
      simp [h0, h1, h2, h3, h4]
    · have h4 : ch.getLsbD (j - 24) = false := BitVec.getLsbD_of_ge _ _ (by omega)
      by_cases h3 : j < 32
      · have h5 : j - 28 < 32 := by omega
        simp [h0, h1, h2, h3, h4, h5]
      · have h5 : op.getLsbD (j - 28) = false := BitVec.getLsbD_of_ge _ _ (by omega)
        simp [h0, h1, h2, h3, h5]

/-- The bits of a colour operand, channel by channel (R72). -/
theorem getLsbD_operand (p : Rgb) (j : Nat) :
    p.operand.getLsbD j =
      if j < 8 then p.b.getLsbD j else if j < 16 then p.g.getLsbD (j - 8) else p.r.getLsbD (j - 16) := by
  simp only [Rgb.operand, BitVec.getLsbD_or, BitVec.getLsbD_shiftLeft, BitVec.getLsbD_setWidth]
  by_cases h1 : j < 8
  · have h2 : j < 16 := by omega
    have h3 : j < 24 := by omega
    simp [h1, h2, h3]
  · have h0 : p.b.getLsbD j = false := BitVec.getLsbD_of_ge _ _ (by omega)
    by_cases h2 : j < 16
    · have h3 : j < 24 := by omega
      have h4 : j - 8 < 24 := by omega
      simp [h0, h1, h2, h3, h4]
    · have h4 : p.g.getLsbD (j - 8) = false := BitVec.getLsbD_of_ge _ _ (by omega)
      by_cases h3 : j < 24
      · have h5 : j - 16 < 24 := by omega
        simp [h0, h1, h2, h3, h4, h5]
      · have h5 : p.r.getLsbD (j - 16) = false := BitVec.getLsbD_of_ge _ _ (by omega)
        simp [h0, h1, h2, h3, h5]

/-- The bits of a data word (R71). -/
theorem getLsbD_dataWord (p : Rgb) (j : Nat) : (dataWord p).getLsbD j = p.operand.getLsbD j := by
  simp only [dataWord, BitVec.getLsbD_setWidth]
  by_cases h : j < 32
  · simp [h]
  · rw [BitVec.getLsbD_of_ge _ _ (by omega : 24 ≤ j)]; simp

/-- The opcode field of a command word is its opcode (R70). -/
@[simp] theorem opField_commandWord (op ch : BitVec 4) (imm : BitVec 24) : opField (commandWord op ch imm) = op := by
  apply BitVec.eq_of_getLsbD_eq
  intro j hj
  interval_cases j <;> simp [opField, commandWord]

/-- The channel field of a command word is its channel (R70). -/
@[simp] theorem chField_commandWord (op ch : BitVec 4) (imm : BitVec 24) : chField (commandWord op ch imm) = ch := by
  apply BitVec.eq_of_getLsbD_eq
  intro j hj
  interval_cases j <;> simp [chField, commandWord]

/-- A field below bit 24 of a command word is that field of its operand (R70). -/
theorem extract_commandWord (op ch : BitVec 4) (imm : BitVec 24) (lo n : Nat) (h : lo + n ≤ 24) :
    (commandWord op ch imm).extractLsb' lo n = imm.extractLsb' lo n := by
  apply BitVec.eq_of_getLsbD_eq
  intro j hj
  have h1 : lo + j < 24 := by omega
  have h2 : lo + j < 28 := by omega
  have h3 : lo + j < 32 := by omega
  simp [commandWord, hj, h1, h2, h3]

/-- A Z word's bits below the opcode are its reserved bits, all zero (R71). -/
theorem extract_commandWord_zero (op : BitVec 4) : (commandWord op 0 0).extractLsb' 0 28 = 0 := by
  apply BitVec.eq_of_getLsbD_eq
  intro j hj
  simp [commandWord, hj]

/-- The colour read back from a colour operand (R72). -/
theorem rgbField_operand (w : Word) (p : Rgb) (h : ∀ j < 24, w.getLsbD j = p.operand.getLsbD j) : rgbField w = p := by
  obtain ⟨r, g, b⟩ := p
  simp only [rgbField, Rgb.mk.injEq]
  refine ⟨?_, ?_, ?_⟩ <;>
  · apply BitVec.eq_of_getLsbD_eq
    intro j hj
    simp only [BitVec.getLsbD_extractLsb', hj, decide_true, Bool.true_and]
    rw [h _ (by omega)]
    interval_cases j <;> simp [Rgb.operand]

/-- The colour of a data word read back (R71). -/
@[simp] theorem rgbField_dataWord (p : Rgb) : rgbField (dataWord p) = p := by
  apply rgbField_operand
  intro j hj
  have h : j < 32 := by omega
  simp [dataWord, hj, h]

/-- The reserved bits of a data word are zero (R71). -/
@[simp] theorem dataWord_reserved (p : Rgb) : (dataWord p).extractLsb' 24 8 = 0 := by
  apply BitVec.eq_of_getLsbD_eq
  intro j hj
  simp [dataWord]

/-- The data words of a FRAME read back as its pixels, whatever follows them (R79). -/
theorem framePixels_dataWords (px : List Rgb) (rest : List Word) :
    framePixels px.length (px.map dataWord ++ rest) = .ok px := by
  induction px with
  | nil => rfl
  | cons p ps ih =>
    simp only [List.length_cons, List.map_cons, List.cons_append, framePixels, dataWord_reserved, if_true, ih,
      rgbField_dataWord]

end Sys2Proof.Laws
end

