-- ==== Sys2Proof/Laws/Host.lean ====
section
/-! SUPPORT. What a move of the reference host can do: the mode and the strips' lines stay, one count is stored, and the
turn goes round (48_host_display.md R200, R202, R210, R211). -/

namespace Sys2Proof.Laws

open Sys2Proof.Machine

@[simp] theorem nextTurn_mode (h : HostState) : h.nextTurn.mode = h.mode := rfl
@[simp] theorem nextTurn_strips (h : HostState) : h.nextTurn.strips = h.strips := rfl
@[simp] theorem nextTurn_current (h : HostState) : h.nextTurn.current = h.nextStrip := rfl
@[simp] theorem nextTurn_phase (h : HostState) : h.nextTurn.phase = .wait := rfl

@[simp] theorem showSample_mode (cfg : Config.Params) (h : HostState) (s : Byte) : (h.showSample cfg s).mode = h.mode := by
  simp only [HostState.showSample]
  split
  · split <;> rfl
  · rfl

@[simp] theorem showSample_strips (cfg : Config.Params) (h : HostState) (s : Byte) :
    (h.showSample cfg s).strips = h.strips.modify h.current (fun k => stripAfter cfg k s) := by
  simp only [HostState.showSample]
  split
  · split <;> rfl
  · rfl

/-- The host never changes the mode it set (R211). -/
@[simp] theorem hostAfter_mode (cfg : Config.Params) (h : HostState) (resp : Word) : (hostAfter cfg h resp).mode = h.mode := by
  unfold hostAfter
  split <;> simp

/-- The host changes its strips only in storing the new count of the strip whose turn it is (R202). -/
theorem hostAfter_strips (cfg : Config.Params) (h : HostState) (resp : Word) :
    (hostAfter cfg h resp).strips = h.strips ∨
      ∃ s, h.phase = .strobe s ∧
        (hostAfter cfg h resp).strips = h.strips.modify h.current (fun k => stripAfter cfg k s) := by
  unfold hostAfter
  split
  case h_6 s hs => exact .inr ⟨s, hs, showSample_strips cfg h s⟩
  all_goals exact .inl (by simp)

/-- A strip's line and number of pixels, the part of it that is fixed (R200). -/
def fixedPart (k : HostStrip) : Nat × Nat := (k.chan, k.pixelCount)

/-- No move of the host changes a strip's line or its number of pixels (R200). -/
@[simp] theorem hostAfter_fixedPart (cfg : Config.Params) (h : HostState) (resp : Word) :
    (hostAfter cfg h resp).strips.map fixedPart = h.strips.map fixedPart := by
  rcases hostAfter_strips cfg h resp with hs | ⟨s, _, hs⟩
  · rw [hs]
  · rw [hs]
    apply List.ext_getElem?
    intro i
    simp only [List.getElem?_map, List.getElem?_modify]
    cases h.strips[i]? with
    | none => rfl
    | some k =>
      by_cases hi : h.current = i
      · simp [hi, fixedPart, stripAfter]
      · simp [hi]

/-- The next strip exists when there is one at all (R210). -/
theorem nextStrip_lt (h : HostState) (hn : 0 < h.strips.length) : h.nextStrip < h.strips.length := by
  unfold HostState.nextStrip
  split <;> assumption

/-- The host always stands at one of its strips (R210). -/
theorem hostAfter_current_lt (cfg : Config.Params) (h : HostState) (resp : Word) (hc : h.current < h.strips.length) :
    (hostAfter cfg h resp).current < (hostAfter cfg h resp).strips.length := by
  have hnext := nextStrip_lt h (by omega)
  unfold hostAfter
  split
  case h_6 s _ =>
    simp only [HostState.showSample]
    split
    · split <;> simpa using hc
    · simpa [HostState.nextTurn, HostState.nextStrip] using hnext
  all_goals first | exact hc | exact hnext

theorem hostAt_succ (cfg : Config.Params) (m : Mode) (answers : Nat → Word) (n : Nat) :
    hostAt cfg m answers (n + 1) = hostAfter cfg (hostAt cfg m answers n) (answers n) := rfl

@[simp] theorem hostAt_mode (cfg : Config.Params) (m : Mode) (answers : Nat → Word) (n : Nat) :
    (hostAt cfg m answers n).mode = m := by
  induction n with
  | zero => rfl
  | succ n ih => rw [hostAt_succ, hostAfter_mode, ih]

/-- The host's strips keep the lines and the pixel counts of the configuration (R200). -/
@[simp] theorem hostAt_fixedPart (cfg : Config.Params) (m : Mode) (answers : Nat → Word) (n : Nat) :
    (hostAt cfg m answers n).strips.map fixedPart = cfg.strips.map (fun k => (k.chan, k.pixelCount)) := by
  induction n with
  | zero => simp [hostAt, hostStart, hostStrips, fixedPart, Function.comp_def]
  | succ n ih => rw [hostAt_succ, hostAfter_fixedPart, ih]

@[simp] theorem hostAt_strips_length (cfg : Config.Params) (m : Mode) (answers : Nat → Word) (n : Nat) :
    (hostAt cfg m answers n).strips.length = cfg.strips.length := by
  have h := congrArg List.length (hostAt_fixedPart cfg m answers n)
  rwa [List.length_map, List.length_map] at h

theorem hostAt_current_lt (cfg : Config.Params) (m : Mode) (answers : Nat → Word) (n : Nat) (hc : 0 < cfg.strips.length) :
    (hostAt cfg m answers n).current < cfg.strips.length := by
  have h : (hostAt cfg m answers n).current < (hostAt cfg m answers n).strips.length := by
    induction n with
    | zero => simpa [hostAt, hostStart, hostStrips] using hc
    | succ n ih => exact hostAfter_current_lt _ _ _ ih
  rwa [hostAt_strips_length] at h

/-- The host's turn on a rig whose command is done: the host reads the block's `RESP`, and only the stream of the block
changes, by the next command's words (R210). -/
theorem hostTurn_done (g : Rig) (hd : g.commandDone = true) :
    g.hostTurn.host = hostAfter g.block.cfg g.host g.block.resp ∧
      g.hostTurn.block = { g.block with
        stream := g.block.stream ++ encode (hostCommand g.block.cfg (hostAfter g.block.cfg g.host g.block.resp)) } := by
  simp [Rig.hostTurn, hd, State.withStream]

end Sys2Proof.Laws
end

