-- ==== Sys2Proof/Laws/State.lean ====
section
/-! SUPPORT. One lemma per field per named update of the state, true by definition; and the canonical form of the
command stream. -/

namespace Sys2Proof.Laws

open Sys2Proof.Machine

@[simp] theorem advance_cfg (s : State) (k : Nat) : (s.advance k).cfg = s.cfg := rfl
@[simp] theorem advance_stream (s : State) (k : Nat) : (s.advance k).stream = s.stream := rfl
@[simp] theorem advance_cp (s : State) (k : Nat) : (s.advance k).cp = s.cp + k := rfl
@[simp] theorem advance_ie (s : State) (k : Nat) : (s.advance k).ie = s.ie := rfl
@[simp] theorem advance_mode (s : State) (k : Nat) : (s.advance k).mode = s.mode := rfl
@[simp] theorem advance_armed (s : State) (k : Nat) : (s.advance k).armed = s.armed := rfl
@[simp] theorem advance_tickPend (s : State) (k : Nat) : (s.advance k).tickPend = s.tickPend := rfl
@[simp] theorem advance_rainR (s : State) (k : Nat) : (s.advance k).rainR = s.rainR := rfl
@[simp] theorem advance_rainG (s : State) (k : Nat) : (s.advance k).rainG = s.rainG := rfl
@[simp] theorem advance_rainB (s : State) (k : Nat) : (s.advance k).rainB = s.rainB := rfl
@[simp] theorem advance_rainPh (s : State) (k : Nat) : (s.advance k).rainPh = s.rainPh := rfl
@[simp] theorem advance_sample (s : State) (k : Nat) : (s.advance k).sample = s.sample := rfl
@[simp] theorem advance_ready (s : State) (k : Nat) : (s.advance k).ready = s.ready := rfl
@[simp] theorem advance_adcBusy (s : State) (k : Nat) : (s.advance k).adcBusy = s.adcBusy := rfl
@[simp] theorem advance_adcPend (s : State) (k : Nat) : (s.advance k).adcPend = s.adcPend := rfl
@[simp] theorem advance_adcData (s : State) (k : Nat) : (s.advance k).adcData = s.adcData := rfl
@[simp] theorem advance_line (s : State) (k : Nat) : (s.advance k).line = s.line := rfl
@[simp] theorem advance_strobe (s : State) (k : Nat) : (s.advance k).strobe = s.strobe := rfl
@[simp] theorem advance_resp (s : State) (k : Nat) : (s.advance k).resp = s.resp := rfl
@[simp] theorem advance_out (s : State) (k : Nat) : (s.advance k).out = s.out := rfl
@[simp] theorem advance_halt (s : State) (k : Nat) : (s.advance k).halt = s.halt := rfl
@[simp] theorem advance_fcause (s : State) (k : Nat) : (s.advance k).fcause = s.fcause := rfl
@[simp] theorem advance_fcp (s : State) (k : Nat) : (s.advance k).fcp = s.fcp := rfl
@[simp] theorem advance_fcmd (s : State) (k : Nat) : (s.advance k).fcmd = s.fcmd := rfl
@[simp] theorem advance_wire (s : State) (k : Nat) : (s.advance k).wire = s.wire := rfl
@[simp] theorem advance_strobes (s : State) (k : Nat) : (s.advance k).strobes = s.strobes := rfl
@[simp] theorem advance_sched (s : State) (k : Nat) : (s.advance k).sched = s.sched := rfl
@[simp] theorem advance_freePos (s : State) (k : Nat) : (s.advance k).freePos = s.freePos := rfl

@[simp] theorem setIe_cfg (s : State) (b : Bool) : (s.setIe b).cfg = s.cfg := rfl
@[simp] theorem setIe_stream (s : State) (b : Bool) : (s.setIe b).stream = s.stream := rfl
@[simp] theorem setIe_cp (s : State) (b : Bool) : (s.setIe b).cp = s.cp := rfl
@[simp] theorem setIe_ie (s : State) (b : Bool) : (s.setIe b).ie = b := rfl
@[simp] theorem setIe_mode (s : State) (b : Bool) : (s.setIe b).mode = s.mode := rfl
@[simp] theorem setIe_armed (s : State) (b : Bool) : (s.setIe b).armed = s.armed := rfl
@[simp] theorem setIe_tickPend (s : State) (b : Bool) : (s.setIe b).tickPend = s.tickPend := rfl
@[simp] theorem setIe_rainR (s : State) (b : Bool) : (s.setIe b).rainR = s.rainR := rfl
@[simp] theorem setIe_rainG (s : State) (b : Bool) : (s.setIe b).rainG = s.rainG := rfl
@[simp] theorem setIe_rainB (s : State) (b : Bool) : (s.setIe b).rainB = s.rainB := rfl
@[simp] theorem setIe_rainPh (s : State) (b : Bool) : (s.setIe b).rainPh = s.rainPh := rfl
@[simp] theorem setIe_sample (s : State) (b : Bool) : (s.setIe b).sample = s.sample := rfl
@[simp] theorem setIe_ready (s : State) (b : Bool) : (s.setIe b).ready = s.ready := rfl
@[simp] theorem setIe_adcBusy (s : State) (b : Bool) : (s.setIe b).adcBusy = s.adcBusy := rfl
@[simp] theorem setIe_adcPend (s : State) (b : Bool) : (s.setIe b).adcPend = s.adcPend := rfl
@[simp] theorem setIe_adcData (s : State) (b : Bool) : (s.setIe b).adcData = s.adcData := rfl
@[simp] theorem setIe_line (s : State) (b : Bool) : (s.setIe b).line = s.line := rfl
@[simp] theorem setIe_strobe (s : State) (b : Bool) : (s.setIe b).strobe = s.strobe := rfl
@[simp] theorem setIe_resp (s : State) (b : Bool) : (s.setIe b).resp = s.resp := rfl
@[simp] theorem setIe_out (s : State) (b : Bool) : (s.setIe b).out = s.out := rfl
@[simp] theorem setIe_halt (s : State) (b : Bool) : (s.setIe b).halt = s.halt := rfl
@[simp] theorem setIe_fcause (s : State) (b : Bool) : (s.setIe b).fcause = s.fcause := rfl
@[simp] theorem setIe_fcp (s : State) (b : Bool) : (s.setIe b).fcp = s.fcp := rfl
@[simp] theorem setIe_fcmd (s : State) (b : Bool) : (s.setIe b).fcmd = s.fcmd := rfl
@[simp] theorem setIe_wire (s : State) (b : Bool) : (s.setIe b).wire = s.wire := rfl
@[simp] theorem setIe_strobes (s : State) (b : Bool) : (s.setIe b).strobes = s.strobes := rfl
@[simp] theorem setIe_sched (s : State) (b : Bool) : (s.setIe b).sched = s.sched := rfl
@[simp] theorem setIe_freePos (s : State) (b : Bool) : (s.setIe b).freePos = s.freePos := rfl

@[simp] theorem setLine_cfg (s : State) (ch : Nat) (level : Bool) : (s.setLine ch level).cfg = s.cfg := rfl
@[simp] theorem setLine_stream (s : State) (ch : Nat) (level : Bool) : (s.setLine ch level).stream = s.stream := rfl
@[simp] theorem setLine_cp (s : State) (ch : Nat) (level : Bool) : (s.setLine ch level).cp = s.cp := rfl
@[simp] theorem setLine_ie (s : State) (ch : Nat) (level : Bool) : (s.setLine ch level).ie = s.ie := rfl
@[simp] theorem setLine_mode (s : State) (ch : Nat) (level : Bool) : (s.setLine ch level).mode = s.mode := rfl
@[simp] theorem setLine_armed (s : State) (ch : Nat) (level : Bool) : (s.setLine ch level).armed = s.armed := rfl
@[simp] theorem setLine_tickPend (s : State) (ch : Nat) (level : Bool) : (s.setLine ch level).tickPend = s.tickPend := rfl
@[simp] theorem setLine_rainR (s : State) (ch : Nat) (level : Bool) : (s.setLine ch level).rainR = s.rainR := rfl
@[simp] theorem setLine_rainG (s : State) (ch : Nat) (level : Bool) : (s.setLine ch level).rainG = s.rainG := rfl
@[simp] theorem setLine_rainB (s : State) (ch : Nat) (level : Bool) : (s.setLine ch level).rainB = s.rainB := rfl
@[simp] theorem setLine_rainPh (s : State) (ch : Nat) (level : Bool) : (s.setLine ch level).rainPh = s.rainPh := rfl
@[simp] theorem setLine_sample (s : State) (ch : Nat) (level : Bool) : (s.setLine ch level).sample = s.sample := rfl
@[simp] theorem setLine_ready (s : State) (ch : Nat) (level : Bool) : (s.setLine ch level).ready = s.ready := rfl
@[simp] theorem setLine_adcBusy (s : State) (ch : Nat) (level : Bool) : (s.setLine ch level).adcBusy = s.adcBusy := rfl
@[simp] theorem setLine_adcPend (s : State) (ch : Nat) (level : Bool) : (s.setLine ch level).adcPend = s.adcPend := rfl
@[simp] theorem setLine_adcData (s : State) (ch : Nat) (level : Bool) : (s.setLine ch level).adcData = s.adcData := rfl
@[simp] theorem setLine_line (s : State) (ch : Nat) (level : Bool) : (s.setLine ch level).line = s.line.set ch level := rfl
@[simp] theorem setLine_strobe (s : State) (ch : Nat) (level : Bool) : (s.setLine ch level).strobe = s.strobe := rfl
@[simp] theorem setLine_resp (s : State) (ch : Nat) (level : Bool) : (s.setLine ch level).resp = s.resp := rfl
@[simp] theorem setLine_out (s : State) (ch : Nat) (level : Bool) : (s.setLine ch level).out = s.out := rfl
@[simp] theorem setLine_halt (s : State) (ch : Nat) (level : Bool) : (s.setLine ch level).halt = s.halt := rfl
@[simp] theorem setLine_fcause (s : State) (ch : Nat) (level : Bool) : (s.setLine ch level).fcause = s.fcause := rfl
@[simp] theorem setLine_fcp (s : State) (ch : Nat) (level : Bool) : (s.setLine ch level).fcp = s.fcp := rfl
@[simp] theorem setLine_fcmd (s : State) (ch : Nat) (level : Bool) : (s.setLine ch level).fcmd = s.fcmd := rfl
@[simp] theorem setLine_wire (s : State) (ch : Nat) (level : Bool) : (s.setLine ch level).wire = s.wire := rfl
@[simp] theorem setLine_strobes (s : State) (ch : Nat) (level : Bool) : (s.setLine ch level).strobes = s.strobes := rfl
@[simp] theorem setLine_sched (s : State) (ch : Nat) (level : Bool) : (s.setLine ch level).sched = s.sched := rfl
@[simp] theorem setLine_freePos (s : State) (ch : Nat) (level : Bool) : (s.setLine ch level).freePos = s.freePos := rfl

@[simp] theorem appendBurst_cfg (s : State) (ch : Nat) (bits : Burst) : (s.appendBurst ch bits).cfg = s.cfg := rfl
@[simp] theorem appendBurst_stream (s : State) (ch : Nat) (bits : Burst) : (s.appendBurst ch bits).stream = s.stream := rfl
@[simp] theorem appendBurst_cp (s : State) (ch : Nat) (bits : Burst) : (s.appendBurst ch bits).cp = s.cp := rfl
@[simp] theorem appendBurst_ie (s : State) (ch : Nat) (bits : Burst) : (s.appendBurst ch bits).ie = s.ie := rfl
@[simp] theorem appendBurst_mode (s : State) (ch : Nat) (bits : Burst) : (s.appendBurst ch bits).mode = s.mode := rfl
@[simp] theorem appendBurst_armed (s : State) (ch : Nat) (bits : Burst) : (s.appendBurst ch bits).armed = s.armed := rfl
@[simp] theorem appendBurst_tickPend (s : State) (ch : Nat) (bits : Burst) : (s.appendBurst ch bits).tickPend = s.tickPend := rfl
@[simp] theorem appendBurst_rainR (s : State) (ch : Nat) (bits : Burst) : (s.appendBurst ch bits).rainR = s.rainR := rfl
@[simp] theorem appendBurst_rainG (s : State) (ch : Nat) (bits : Burst) : (s.appendBurst ch bits).rainG = s.rainG := rfl
@[simp] theorem appendBurst_rainB (s : State) (ch : Nat) (bits : Burst) : (s.appendBurst ch bits).rainB = s.rainB := rfl
@[simp] theorem appendBurst_rainPh (s : State) (ch : Nat) (bits : Burst) : (s.appendBurst ch bits).rainPh = s.rainPh := rfl
@[simp] theorem appendBurst_sample (s : State) (ch : Nat) (bits : Burst) : (s.appendBurst ch bits).sample = s.sample := rfl
@[simp] theorem appendBurst_ready (s : State) (ch : Nat) (bits : Burst) : (s.appendBurst ch bits).ready = s.ready := rfl
@[simp] theorem appendBurst_adcBusy (s : State) (ch : Nat) (bits : Burst) : (s.appendBurst ch bits).adcBusy = s.adcBusy := rfl
@[simp] theorem appendBurst_adcPend (s : State) (ch : Nat) (bits : Burst) : (s.appendBurst ch bits).adcPend = s.adcPend := rfl
@[simp] theorem appendBurst_adcData (s : State) (ch : Nat) (bits : Burst) : (s.appendBurst ch bits).adcData = s.adcData := rfl
@[simp] theorem appendBurst_line (s : State) (ch : Nat) (bits : Burst) : (s.appendBurst ch bits).line = s.line := rfl
@[simp] theorem appendBurst_strobe (s : State) (ch : Nat) (bits : Burst) : (s.appendBurst ch bits).strobe = s.strobe := rfl
@[simp] theorem appendBurst_resp (s : State) (ch : Nat) (bits : Burst) : (s.appendBurst ch bits).resp = s.resp := rfl
@[simp] theorem appendBurst_out (s : State) (ch : Nat) (bits : Burst) : (s.appendBurst ch bits).out = s.out := rfl
@[simp] theorem appendBurst_halt (s : State) (ch : Nat) (bits : Burst) : (s.appendBurst ch bits).halt = s.halt := rfl
@[simp] theorem appendBurst_fcause (s : State) (ch : Nat) (bits : Burst) : (s.appendBurst ch bits).fcause = s.fcause := rfl
@[simp] theorem appendBurst_fcp (s : State) (ch : Nat) (bits : Burst) : (s.appendBurst ch bits).fcp = s.fcp := rfl
@[simp] theorem appendBurst_fcmd (s : State) (ch : Nat) (bits : Burst) : (s.appendBurst ch bits).fcmd = s.fcmd := rfl
@[simp] theorem appendBurst_wire (s : State) (ch : Nat) (bits : Burst) : (s.appendBurst ch bits).wire = s.wire.modify ch (fun old => old ++ [bits]) := rfl
@[simp] theorem appendBurst_strobes (s : State) (ch : Nat) (bits : Burst) : (s.appendBurst ch bits).strobes = s.strobes := rfl
@[simp] theorem appendBurst_sched (s : State) (ch : Nat) (bits : Burst) : (s.appendBurst ch bits).sched = s.sched := rfl
@[simp] theorem appendBurst_freePos (s : State) (ch : Nat) (bits : Burst) : (s.appendBurst ch bits).freePos = s.freePos := rfl

@[simp] theorem respond_cfg (s : State) (v : Word) : (s.respond v).cfg = s.cfg := rfl
@[simp] theorem respond_stream (s : State) (v : Word) : (s.respond v).stream = s.stream := rfl
@[simp] theorem respond_cp (s : State) (v : Word) : (s.respond v).cp = s.cp := rfl
@[simp] theorem respond_ie (s : State) (v : Word) : (s.respond v).ie = s.ie := rfl
@[simp] theorem respond_mode (s : State) (v : Word) : (s.respond v).mode = s.mode := rfl
@[simp] theorem respond_armed (s : State) (v : Word) : (s.respond v).armed = s.armed := rfl
@[simp] theorem respond_tickPend (s : State) (v : Word) : (s.respond v).tickPend = s.tickPend := rfl
@[simp] theorem respond_rainR (s : State) (v : Word) : (s.respond v).rainR = s.rainR := rfl
@[simp] theorem respond_rainG (s : State) (v : Word) : (s.respond v).rainG = s.rainG := rfl
@[simp] theorem respond_rainB (s : State) (v : Word) : (s.respond v).rainB = s.rainB := rfl
@[simp] theorem respond_rainPh (s : State) (v : Word) : (s.respond v).rainPh = s.rainPh := rfl
@[simp] theorem respond_sample (s : State) (v : Word) : (s.respond v).sample = s.sample := rfl
@[simp] theorem respond_ready (s : State) (v : Word) : (s.respond v).ready = s.ready := rfl
@[simp] theorem respond_adcBusy (s : State) (v : Word) : (s.respond v).adcBusy = s.adcBusy := rfl
@[simp] theorem respond_adcPend (s : State) (v : Word) : (s.respond v).adcPend = s.adcPend := rfl
@[simp] theorem respond_adcData (s : State) (v : Word) : (s.respond v).adcData = s.adcData := rfl
@[simp] theorem respond_line (s : State) (v : Word) : (s.respond v).line = s.line := rfl
@[simp] theorem respond_strobe (s : State) (v : Word) : (s.respond v).strobe = s.strobe := rfl
@[simp] theorem respond_resp (s : State) (v : Word) : (s.respond v).resp = v := rfl
@[simp] theorem respond_out (s : State) (v : Word) : (s.respond v).out = s.out ++ [v] := rfl
@[simp] theorem respond_halt (s : State) (v : Word) : (s.respond v).halt = s.halt := rfl
@[simp] theorem respond_fcause (s : State) (v : Word) : (s.respond v).fcause = s.fcause := rfl
@[simp] theorem respond_fcp (s : State) (v : Word) : (s.respond v).fcp = s.fcp := rfl
@[simp] theorem respond_fcmd (s : State) (v : Word) : (s.respond v).fcmd = s.fcmd := rfl
@[simp] theorem respond_wire (s : State) (v : Word) : (s.respond v).wire = s.wire := rfl
@[simp] theorem respond_strobes (s : State) (v : Word) : (s.respond v).strobes = s.strobes := rfl
@[simp] theorem respond_sched (s : State) (v : Word) : (s.respond v).sched = s.sched := rfl
@[simp] theorem respond_freePos (s : State) (v : Word) : (s.respond v).freePos = s.freePos := rfl

@[simp] theorem setStrobe_cfg (s : State) (level : Bool) : (s.setStrobe level).cfg = s.cfg := rfl
@[simp] theorem setStrobe_stream (s : State) (level : Bool) : (s.setStrobe level).stream = s.stream := rfl
@[simp] theorem setStrobe_cp (s : State) (level : Bool) : (s.setStrobe level).cp = s.cp := rfl
@[simp] theorem setStrobe_ie (s : State) (level : Bool) : (s.setStrobe level).ie = s.ie := rfl
@[simp] theorem setStrobe_mode (s : State) (level : Bool) : (s.setStrobe level).mode = s.mode := rfl
@[simp] theorem setStrobe_armed (s : State) (level : Bool) : (s.setStrobe level).armed = s.armed := rfl
@[simp] theorem setStrobe_tickPend (s : State) (level : Bool) : (s.setStrobe level).tickPend = s.tickPend := rfl
@[simp] theorem setStrobe_rainR (s : State) (level : Bool) : (s.setStrobe level).rainR = s.rainR := rfl
@[simp] theorem setStrobe_rainG (s : State) (level : Bool) : (s.setStrobe level).rainG = s.rainG := rfl
@[simp] theorem setStrobe_rainB (s : State) (level : Bool) : (s.setStrobe level).rainB = s.rainB := rfl
@[simp] theorem setStrobe_rainPh (s : State) (level : Bool) : (s.setStrobe level).rainPh = s.rainPh := rfl
@[simp] theorem setStrobe_sample (s : State) (level : Bool) : (s.setStrobe level).sample = s.sample := rfl
@[simp] theorem setStrobe_ready (s : State) (level : Bool) : (s.setStrobe level).ready = s.ready := rfl
@[simp] theorem setStrobe_adcBusy (s : State) (level : Bool) : (s.setStrobe level).adcBusy = s.adcBusy := rfl
@[simp] theorem setStrobe_adcPend (s : State) (level : Bool) : (s.setStrobe level).adcPend = s.adcPend := rfl
@[simp] theorem setStrobe_adcData (s : State) (level : Bool) : (s.setStrobe level).adcData = s.adcData := rfl
@[simp] theorem setStrobe_line (s : State) (level : Bool) : (s.setStrobe level).line = s.line := rfl
@[simp] theorem setStrobe_strobe (s : State) (level : Bool) : (s.setStrobe level).strobe = level := rfl
@[simp] theorem setStrobe_resp (s : State) (level : Bool) : (s.setStrobe level).resp = s.resp := rfl
@[simp] theorem setStrobe_out (s : State) (level : Bool) : (s.setStrobe level).out = s.out := rfl
@[simp] theorem setStrobe_halt (s : State) (level : Bool) : (s.setStrobe level).halt = s.halt := rfl
@[simp] theorem setStrobe_fcause (s : State) (level : Bool) : (s.setStrobe level).fcause = s.fcause := rfl
@[simp] theorem setStrobe_fcp (s : State) (level : Bool) : (s.setStrobe level).fcp = s.fcp := rfl
@[simp] theorem setStrobe_fcmd (s : State) (level : Bool) : (s.setStrobe level).fcmd = s.fcmd := rfl
@[simp] theorem setStrobe_wire (s : State) (level : Bool) : (s.setStrobe level).wire = s.wire := rfl
@[simp] theorem setStrobe_strobes (s : State) (level : Bool) : (s.setStrobe level).strobes = s.strobes := rfl
@[simp] theorem setStrobe_sched (s : State) (level : Bool) : (s.setStrobe level).sched = s.sched := rfl
@[simp] theorem setStrobe_freePos (s : State) (level : Bool) : (s.setStrobe level).freePos = s.freePos := rfl

@[simp] theorem strobePulse_cfg (s : State) : (strobePulse s).cfg = s.cfg := rfl
@[simp] theorem strobePulse_stream (s : State) : (strobePulse s).stream = s.stream := rfl
@[simp] theorem strobePulse_cp (s : State) : (strobePulse s).cp = s.cp := rfl
@[simp] theorem strobePulse_ie (s : State) : (strobePulse s).ie = s.ie := rfl
@[simp] theorem strobePulse_mode (s : State) : (strobePulse s).mode = s.mode := rfl
@[simp] theorem strobePulse_armed (s : State) : (strobePulse s).armed = s.armed := rfl
@[simp] theorem strobePulse_tickPend (s : State) : (strobePulse s).tickPend = s.tickPend := rfl
@[simp] theorem strobePulse_rainR (s : State) : (strobePulse s).rainR = s.rainR := rfl
@[simp] theorem strobePulse_rainG (s : State) : (strobePulse s).rainG = s.rainG := rfl
@[simp] theorem strobePulse_rainB (s : State) : (strobePulse s).rainB = s.rainB := rfl
@[simp] theorem strobePulse_rainPh (s : State) : (strobePulse s).rainPh = s.rainPh := rfl
@[simp] theorem strobePulse_sample (s : State) : (strobePulse s).sample = s.sample := rfl
@[simp] theorem strobePulse_ready (s : State) : (strobePulse s).ready = s.ready := rfl
@[simp] theorem strobePulse_adcBusy (s : State) : (strobePulse s).adcBusy = s.adcBusy := rfl
@[simp] theorem strobePulse_adcPend (s : State) : (strobePulse s).adcPend = s.adcPend := rfl
@[simp] theorem strobePulse_adcData (s : State) : (strobePulse s).adcData = s.adcData := rfl
@[simp] theorem strobePulse_line (s : State) : (strobePulse s).line = s.line := rfl
@[simp] theorem strobePulse_strobe (s : State) : (strobePulse s).strobe = false := rfl
@[simp] theorem strobePulse_resp (s : State) : (strobePulse s).resp = s.resp := rfl
@[simp] theorem strobePulse_out (s : State) : (strobePulse s).out = s.out := rfl
@[simp] theorem strobePulse_halt (s : State) : (strobePulse s).halt = s.halt := rfl
@[simp] theorem strobePulse_fcause (s : State) : (strobePulse s).fcause = s.fcause := rfl
@[simp] theorem strobePulse_fcp (s : State) : (strobePulse s).fcp = s.fcp := rfl
@[simp] theorem strobePulse_fcmd (s : State) : (strobePulse s).fcmd = s.fcmd := rfl
@[simp] theorem strobePulse_wire (s : State) : (strobePulse s).wire = s.wire := rfl
@[simp] theorem strobePulse_strobes (s : State) : (strobePulse s).strobes = s.strobes + 1 := rfl
@[simp] theorem strobePulse_sched (s : State) : (strobePulse s).sched = s.sched := rfl
@[simp] theorem strobePulse_freePos (s : State) : (strobePulse s).freePos = s.freePos := rfl

@[simp] theorem enterFault_cfg (s : State) (c : FaultCause) : (s.enterFault c).cfg = s.cfg := rfl
@[simp] theorem enterFault_stream (s : State) (c : FaultCause) : (s.enterFault c).stream = s.stream := rfl
@[simp] theorem enterFault_cp (s : State) (c : FaultCause) : (s.enterFault c).cp = s.cp := rfl
@[simp] theorem enterFault_ie (s : State) (c : FaultCause) : (s.enterFault c).ie = s.ie := rfl
@[simp] theorem enterFault_mode (s : State) (c : FaultCause) : (s.enterFault c).mode = s.mode := rfl
@[simp] theorem enterFault_armed (s : State) (c : FaultCause) : (s.enterFault c).armed = s.armed := rfl
@[simp] theorem enterFault_tickPend (s : State) (c : FaultCause) : (s.enterFault c).tickPend = s.tickPend := rfl
@[simp] theorem enterFault_rainR (s : State) (c : FaultCause) : (s.enterFault c).rainR = s.rainR := rfl
@[simp] theorem enterFault_rainG (s : State) (c : FaultCause) : (s.enterFault c).rainG = s.rainG := rfl
@[simp] theorem enterFault_rainB (s : State) (c : FaultCause) : (s.enterFault c).rainB = s.rainB := rfl
@[simp] theorem enterFault_rainPh (s : State) (c : FaultCause) : (s.enterFault c).rainPh = s.rainPh := rfl
@[simp] theorem enterFault_sample (s : State) (c : FaultCause) : (s.enterFault c).sample = s.sample := rfl
@[simp] theorem enterFault_ready (s : State) (c : FaultCause) : (s.enterFault c).ready = s.ready := rfl
@[simp] theorem enterFault_adcBusy (s : State) (c : FaultCause) : (s.enterFault c).adcBusy = s.adcBusy := rfl
@[simp] theorem enterFault_adcPend (s : State) (c : FaultCause) : (s.enterFault c).adcPend = s.adcPend := rfl
@[simp] theorem enterFault_adcData (s : State) (c : FaultCause) : (s.enterFault c).adcData = s.adcData := rfl
@[simp] theorem enterFault_line (s : State) (c : FaultCause) : (s.enterFault c).line = s.line := rfl
@[simp] theorem enterFault_strobe (s : State) (c : FaultCause) : (s.enterFault c).strobe = s.strobe := rfl
@[simp] theorem enterFault_resp (s : State) (c : FaultCause) : (s.enterFault c).resp = s.resp := rfl
@[simp] theorem enterFault_out (s : State) (c : FaultCause) : (s.enterFault c).out = s.out := rfl
@[simp] theorem enterFault_halt (s : State) (c : FaultCause) : (s.enterFault c).halt = true := rfl
@[simp] theorem enterFault_fcause (s : State) (c : FaultCause) : (s.enterFault c).fcause = c := rfl
@[simp] theorem enterFault_fcp (s : State) (c : FaultCause) : (s.enterFault c).fcp = s.cp := rfl
@[simp] theorem enterFault_fcmd (s : State) (c : FaultCause) : (s.enterFault c).fcmd = (memRead s s.cp).getD s.fcmd := rfl
@[simp] theorem enterFault_wire (s : State) (c : FaultCause) : (s.enterFault c).wire = s.wire := rfl
@[simp] theorem enterFault_strobes (s : State) (c : FaultCause) : (s.enterFault c).strobes = s.strobes := rfl
@[simp] theorem enterFault_sched (s : State) (c : FaultCause) : (s.enterFault c).sched = s.sched := rfl
@[simp] theorem enterFault_freePos (s : State) (c : FaultCause) : (s.enterFault c).freePos = s.freePos := rfl

@[simp] theorem withStream_cfg (s : State) (ws : List Word) : (s.withStream ws).cfg = s.cfg := rfl
@[simp] theorem withStream_stream (s : State) (ws : List Word) : (s.withStream ws).stream = ws := rfl
@[simp] theorem withStream_cp (s : State) (ws : List Word) : (s.withStream ws).cp = s.cp := rfl
@[simp] theorem withStream_ie (s : State) (ws : List Word) : (s.withStream ws).ie = s.ie := rfl
@[simp] theorem withStream_mode (s : State) (ws : List Word) : (s.withStream ws).mode = s.mode := rfl
@[simp] theorem withStream_armed (s : State) (ws : List Word) : (s.withStream ws).armed = s.armed := rfl
@[simp] theorem withStream_tickPend (s : State) (ws : List Word) : (s.withStream ws).tickPend = s.tickPend := rfl
@[simp] theorem withStream_rainR (s : State) (ws : List Word) : (s.withStream ws).rainR = s.rainR := rfl
@[simp] theorem withStream_rainG (s : State) (ws : List Word) : (s.withStream ws).rainG = s.rainG := rfl
@[simp] theorem withStream_rainB (s : State) (ws : List Word) : (s.withStream ws).rainB = s.rainB := rfl
@[simp] theorem withStream_rainPh (s : State) (ws : List Word) : (s.withStream ws).rainPh = s.rainPh := rfl
@[simp] theorem withStream_sample (s : State) (ws : List Word) : (s.withStream ws).sample = s.sample := rfl
@[simp] theorem withStream_ready (s : State) (ws : List Word) : (s.withStream ws).ready = s.ready := rfl
@[simp] theorem withStream_adcBusy (s : State) (ws : List Word) : (s.withStream ws).adcBusy = s.adcBusy := rfl
@[simp] theorem withStream_adcPend (s : State) (ws : List Word) : (s.withStream ws).adcPend = s.adcPend := rfl
@[simp] theorem withStream_adcData (s : State) (ws : List Word) : (s.withStream ws).adcData = s.adcData := rfl
@[simp] theorem withStream_line (s : State) (ws : List Word) : (s.withStream ws).line = s.line := rfl
@[simp] theorem withStream_strobe (s : State) (ws : List Word) : (s.withStream ws).strobe = s.strobe := rfl
@[simp] theorem withStream_resp (s : State) (ws : List Word) : (s.withStream ws).resp = s.resp := rfl
@[simp] theorem withStream_out (s : State) (ws : List Word) : (s.withStream ws).out = s.out := rfl
@[simp] theorem withStream_halt (s : State) (ws : List Word) : (s.withStream ws).halt = s.halt := rfl
@[simp] theorem withStream_fcause (s : State) (ws : List Word) : (s.withStream ws).fcause = s.fcause := rfl
@[simp] theorem withStream_fcp (s : State) (ws : List Word) : (s.withStream ws).fcp = s.fcp := rfl
@[simp] theorem withStream_fcmd (s : State) (ws : List Word) : (s.withStream ws).fcmd = s.fcmd := rfl
@[simp] theorem withStream_wire (s : State) (ws : List Word) : (s.withStream ws).wire = s.wire := rfl
@[simp] theorem withStream_strobes (s : State) (ws : List Word) : (s.withStream ws).strobes = s.strobes := rfl
@[simp] theorem withStream_sched (s : State) (ws : List Word) : (s.withStream ws).sched = s.sched := rfl
@[simp] theorem withStream_freePos (s : State) (ws : List Word) : (s.withStream ws).freePos = s.freePos := rfl

@[simp] theorem withSched_cfg (s : State) (es : List Event) : (s.withSched es).cfg = s.cfg := rfl
@[simp] theorem withSched_stream (s : State) (es : List Event) : (s.withSched es).stream = s.stream := rfl
@[simp] theorem withSched_cp (s : State) (es : List Event) : (s.withSched es).cp = s.cp := rfl
@[simp] theorem withSched_ie (s : State) (es : List Event) : (s.withSched es).ie = s.ie := rfl
@[simp] theorem withSched_mode (s : State) (es : List Event) : (s.withSched es).mode = s.mode := rfl
@[simp] theorem withSched_armed (s : State) (es : List Event) : (s.withSched es).armed = s.armed := rfl
@[simp] theorem withSched_tickPend (s : State) (es : List Event) : (s.withSched es).tickPend = s.tickPend := rfl
@[simp] theorem withSched_rainR (s : State) (es : List Event) : (s.withSched es).rainR = s.rainR := rfl
@[simp] theorem withSched_rainG (s : State) (es : List Event) : (s.withSched es).rainG = s.rainG := rfl
@[simp] theorem withSched_rainB (s : State) (es : List Event) : (s.withSched es).rainB = s.rainB := rfl
@[simp] theorem withSched_rainPh (s : State) (es : List Event) : (s.withSched es).rainPh = s.rainPh := rfl
@[simp] theorem withSched_sample (s : State) (es : List Event) : (s.withSched es).sample = s.sample := rfl
@[simp] theorem withSched_ready (s : State) (es : List Event) : (s.withSched es).ready = s.ready := rfl
@[simp] theorem withSched_adcBusy (s : State) (es : List Event) : (s.withSched es).adcBusy = s.adcBusy := rfl
@[simp] theorem withSched_adcPend (s : State) (es : List Event) : (s.withSched es).adcPend = s.adcPend := rfl
@[simp] theorem withSched_adcData (s : State) (es : List Event) : (s.withSched es).adcData = s.adcData := rfl
@[simp] theorem withSched_line (s : State) (es : List Event) : (s.withSched es).line = s.line := rfl
@[simp] theorem withSched_strobe (s : State) (es : List Event) : (s.withSched es).strobe = s.strobe := rfl
@[simp] theorem withSched_resp (s : State) (es : List Event) : (s.withSched es).resp = s.resp := rfl
@[simp] theorem withSched_out (s : State) (es : List Event) : (s.withSched es).out = s.out := rfl
@[simp] theorem withSched_halt (s : State) (es : List Event) : (s.withSched es).halt = s.halt := rfl
@[simp] theorem withSched_fcause (s : State) (es : List Event) : (s.withSched es).fcause = s.fcause := rfl
@[simp] theorem withSched_fcp (s : State) (es : List Event) : (s.withSched es).fcp = s.fcp := rfl
@[simp] theorem withSched_fcmd (s : State) (es : List Event) : (s.withSched es).fcmd = s.fcmd := rfl
@[simp] theorem withSched_wire (s : State) (es : List Event) : (s.withSched es).wire = s.wire := rfl
@[simp] theorem withSched_strobes (s : State) (es : List Event) : (s.withSched es).strobes = s.strobes := rfl
@[simp] theorem withSched_sched (s : State) (es : List Event) : (s.withSched es).sched = es := rfl
@[simp] theorem withSched_freePos (s : State) (es : List Event) : (s.withSched es).freePos = s.freePos := rfl

@[simp] theorem adcComplete_cfg (s : State) (v : Byte) : (adcComplete v s).cfg = s.cfg := rfl
@[simp] theorem adcComplete_stream (s : State) (v : Byte) : (adcComplete v s).stream = s.stream := rfl
@[simp] theorem adcComplete_cp (s : State) (v : Byte) : (adcComplete v s).cp = s.cp := rfl
@[simp] theorem adcComplete_ie (s : State) (v : Byte) : (adcComplete v s).ie = s.ie := rfl
@[simp] theorem adcComplete_mode (s : State) (v : Byte) : (adcComplete v s).mode = s.mode := rfl
@[simp] theorem adcComplete_armed (s : State) (v : Byte) : (adcComplete v s).armed = s.armed := rfl
@[simp] theorem adcComplete_tickPend (s : State) (v : Byte) : (adcComplete v s).tickPend = s.tickPend := rfl
@[simp] theorem adcComplete_rainR (s : State) (v : Byte) : (adcComplete v s).rainR = s.rainR := rfl
@[simp] theorem adcComplete_rainG (s : State) (v : Byte) : (adcComplete v s).rainG = s.rainG := rfl
@[simp] theorem adcComplete_rainB (s : State) (v : Byte) : (adcComplete v s).rainB = s.rainB := rfl
@[simp] theorem adcComplete_rainPh (s : State) (v : Byte) : (adcComplete v s).rainPh = s.rainPh := rfl
@[simp] theorem adcComplete_sample (s : State) (v : Byte) : (adcComplete v s).sample = s.sample := rfl
@[simp] theorem adcComplete_ready (s : State) (v : Byte) : (adcComplete v s).ready = s.ready := rfl
@[simp] theorem adcComplete_adcBusy (s : State) (v : Byte) : (adcComplete v s).adcBusy = false := rfl
@[simp] theorem adcComplete_adcPend (s : State) (v : Byte) : (adcComplete v s).adcPend = true := rfl
@[simp] theorem adcComplete_adcData (s : State) (v : Byte) : (adcComplete v s).adcData = v := rfl
@[simp] theorem adcComplete_line (s : State) (v : Byte) : (adcComplete v s).line = s.line := rfl
@[simp] theorem adcComplete_strobe (s : State) (v : Byte) : (adcComplete v s).strobe = s.strobe := rfl
@[simp] theorem adcComplete_resp (s : State) (v : Byte) : (adcComplete v s).resp = s.resp := rfl
@[simp] theorem adcComplete_out (s : State) (v : Byte) : (adcComplete v s).out = s.out := rfl
@[simp] theorem adcComplete_halt (s : State) (v : Byte) : (adcComplete v s).halt = s.halt := rfl
@[simp] theorem adcComplete_fcause (s : State) (v : Byte) : (adcComplete v s).fcause = s.fcause := rfl
@[simp] theorem adcComplete_fcp (s : State) (v : Byte) : (adcComplete v s).fcp = s.fcp := rfl
@[simp] theorem adcComplete_fcmd (s : State) (v : Byte) : (adcComplete v s).fcmd = s.fcmd := rfl
@[simp] theorem adcComplete_wire (s : State) (v : Byte) : (adcComplete v s).wire = s.wire := rfl
@[simp] theorem adcComplete_strobes (s : State) (v : Byte) : (adcComplete v s).strobes = s.strobes := rfl
@[simp] theorem adcComplete_sched (s : State) (v : Byte) : (adcComplete v s).sched = s.sched := rfl
@[simp] theorem adcComplete_freePos (s : State) (v : Byte) : (adcComplete v s).freePos = s.freePos := rfl

@[simp] theorem adcHandler_cfg (s : State) : (adcHandler s).cfg = s.cfg := rfl
@[simp] theorem adcHandler_stream (s : State) : (adcHandler s).stream = s.stream := rfl
@[simp] theorem adcHandler_cp (s : State) : (adcHandler s).cp = s.cp := rfl
@[simp] theorem adcHandler_ie (s : State) : (adcHandler s).ie = s.ie := rfl
@[simp] theorem adcHandler_mode (s : State) : (adcHandler s).mode = s.mode := rfl
@[simp] theorem adcHandler_armed (s : State) : (adcHandler s).armed = s.armed := rfl
@[simp] theorem adcHandler_tickPend (s : State) : (adcHandler s).tickPend = s.tickPend := rfl
@[simp] theorem adcHandler_rainR (s : State) : (adcHandler s).rainR = s.rainR := rfl
@[simp] theorem adcHandler_rainG (s : State) : (adcHandler s).rainG = s.rainG := rfl
@[simp] theorem adcHandler_rainB (s : State) : (adcHandler s).rainB = s.rainB := rfl
@[simp] theorem adcHandler_rainPh (s : State) : (adcHandler s).rainPh = s.rainPh := rfl
@[simp] theorem adcHandler_sample (s : State) : (adcHandler s).sample = s.adcData := rfl
@[simp] theorem adcHandler_ready (s : State) : (adcHandler s).ready = true := rfl
@[simp] theorem adcHandler_adcBusy (s : State) : (adcHandler s).adcBusy = s.adcBusy := rfl
@[simp] theorem adcHandler_adcPend (s : State) : (adcHandler s).adcPend = false := rfl
@[simp] theorem adcHandler_adcData (s : State) : (adcHandler s).adcData = s.adcData := rfl
@[simp] theorem adcHandler_line (s : State) : (adcHandler s).line = s.line := rfl
@[simp] theorem adcHandler_strobe (s : State) : (adcHandler s).strobe = s.strobe := rfl
@[simp] theorem adcHandler_resp (s : State) : (adcHandler s).resp = s.resp := rfl
@[simp] theorem adcHandler_out (s : State) : (adcHandler s).out = s.out := rfl
@[simp] theorem adcHandler_halt (s : State) : (adcHandler s).halt = s.halt := rfl
@[simp] theorem adcHandler_fcause (s : State) : (adcHandler s).fcause = s.fcause := rfl
@[simp] theorem adcHandler_fcp (s : State) : (adcHandler s).fcp = s.fcp := rfl
@[simp] theorem adcHandler_fcmd (s : State) : (adcHandler s).fcmd = s.fcmd := rfl
@[simp] theorem adcHandler_wire (s : State) : (adcHandler s).wire = s.wire := rfl
@[simp] theorem adcHandler_strobes (s : State) : (adcHandler s).strobes = s.strobes := rfl
@[simp] theorem adcHandler_sched (s : State) : (adcHandler s).sched = s.sched := rfl
@[simp] theorem adcHandler_freePos (s : State) : (adcHandler s).freePos = s.freePos := rfl

@[simp] theorem timerTick_cfg (s : State) : (timerTick s).cfg = s.cfg := rfl
@[simp] theorem timerTick_stream (s : State) : (timerTick s).stream = s.stream := rfl
@[simp] theorem timerTick_cp (s : State) : (timerTick s).cp = s.cp := rfl
@[simp] theorem timerTick_ie (s : State) : (timerTick s).ie = s.ie := rfl
@[simp] theorem timerTick_mode (s : State) : (timerTick s).mode = s.mode := rfl
@[simp] theorem timerTick_armed (s : State) : (timerTick s).armed = s.armed := rfl
@[simp] theorem timerTick_tickPend (s : State) : (timerTick s).tickPend = true := rfl
@[simp] theorem timerTick_rainR (s : State) : (timerTick s).rainR = s.rainR := rfl
@[simp] theorem timerTick_rainG (s : State) : (timerTick s).rainG = s.rainG := rfl
@[simp] theorem timerTick_rainB (s : State) : (timerTick s).rainB = s.rainB := rfl
@[simp] theorem timerTick_rainPh (s : State) : (timerTick s).rainPh = s.rainPh := rfl
@[simp] theorem timerTick_sample (s : State) : (timerTick s).sample = s.sample := rfl
@[simp] theorem timerTick_ready (s : State) : (timerTick s).ready = s.ready := rfl
@[simp] theorem timerTick_adcBusy (s : State) : (timerTick s).adcBusy = s.adcBusy := rfl
@[simp] theorem timerTick_adcPend (s : State) : (timerTick s).adcPend = s.adcPend := rfl
@[simp] theorem timerTick_adcData (s : State) : (timerTick s).adcData = s.adcData := rfl
@[simp] theorem timerTick_line (s : State) : (timerTick s).line = s.line := rfl
@[simp] theorem timerTick_strobe (s : State) : (timerTick s).strobe = s.strobe := rfl
@[simp] theorem timerTick_resp (s : State) : (timerTick s).resp = s.resp := rfl
@[simp] theorem timerTick_out (s : State) : (timerTick s).out = s.out := rfl
@[simp] theorem timerTick_halt (s : State) : (timerTick s).halt = s.halt := rfl
@[simp] theorem timerTick_fcause (s : State) : (timerTick s).fcause = s.fcause := rfl
@[simp] theorem timerTick_fcp (s : State) : (timerTick s).fcp = s.fcp := rfl
@[simp] theorem timerTick_fcmd (s : State) : (timerTick s).fcmd = s.fcmd := rfl
@[simp] theorem timerTick_wire (s : State) : (timerTick s).wire = s.wire := rfl
@[simp] theorem timerTick_strobes (s : State) : (timerTick s).strobes = s.strobes := rfl
@[simp] theorem timerTick_sched (s : State) : (timerTick s).sched = s.sched := rfl
@[simp] theorem timerTick_freePos (s : State) : (timerTick s).freePos = s.freePos := rfl

@[simp] theorem seed_cfg (s : State) : (seed s).cfg = s.cfg := rfl
@[simp] theorem seed_stream (s : State) : (seed s).stream = s.stream := rfl
@[simp] theorem seed_cp (s : State) : (seed s).cp = s.cp := rfl
@[simp] theorem seed_ie (s : State) : (seed s).ie = s.ie := rfl
@[simp] theorem seed_mode (s : State) : (seed s).mode = s.mode := rfl
@[simp] theorem seed_armed (s : State) : (seed s).armed = s.armed := rfl
@[simp] theorem seed_tickPend (s : State) : (seed s).tickPend = s.tickPend := rfl
@[simp] theorem seed_rainR (s : State) : (seed s).rainR = 0 := rfl
@[simp] theorem seed_rainG (s : State) : (seed s).rainG = BitVec.ofNat 8 s.cfg.brightness := rfl
@[simp] theorem seed_rainB (s : State) : (seed s).rainB = 0 := rfl
@[simp] theorem seed_rainPh (s : State) : (seed s).rainPh = .green := rfl
@[simp] theorem seed_sample (s : State) : (seed s).sample = s.sample := rfl
@[simp] theorem seed_ready (s : State) : (seed s).ready = s.ready := rfl
@[simp] theorem seed_adcBusy (s : State) : (seed s).adcBusy = s.adcBusy := rfl
@[simp] theorem seed_adcPend (s : State) : (seed s).adcPend = s.adcPend := rfl
@[simp] theorem seed_adcData (s : State) : (seed s).adcData = s.adcData := rfl
@[simp] theorem seed_line (s : State) : (seed s).line = s.line := rfl
@[simp] theorem seed_strobe (s : State) : (seed s).strobe = s.strobe := rfl
@[simp] theorem seed_resp (s : State) : (seed s).resp = s.resp := rfl
@[simp] theorem seed_out (s : State) : (seed s).out = s.out := rfl
@[simp] theorem seed_halt (s : State) : (seed s).halt = s.halt := rfl
@[simp] theorem seed_fcause (s : State) : (seed s).fcause = s.fcause := rfl
@[simp] theorem seed_fcp (s : State) : (seed s).fcp = s.fcp := rfl
@[simp] theorem seed_fcmd (s : State) : (seed s).fcmd = s.fcmd := rfl
@[simp] theorem seed_wire (s : State) : (seed s).wire = s.wire := rfl
@[simp] theorem seed_strobes (s : State) : (seed s).strobes = s.strobes := rfl
@[simp] theorem seed_sched (s : State) : (seed s).sched = s.sched := rfl
@[simp] theorem seed_freePos (s : State) : (seed s).freePos = s.freePos := rfl

@[simp] theorem takeEvent_cfg (s : State) : s.takeEvent.cfg = s.cfg := by
  unfold State.takeEvent; split <;> rfl
@[simp] theorem takeEvent_stream (s : State) : s.takeEvent.stream = s.stream := by
  unfold State.takeEvent; split <;> rfl
@[simp] theorem takeEvent_cp (s : State) : s.takeEvent.cp = s.cp := by
  unfold State.takeEvent; split <;> rfl
@[simp] theorem takeEvent_ie (s : State) : s.takeEvent.ie = s.ie := by
  unfold State.takeEvent; split <;> rfl
@[simp] theorem takeEvent_mode (s : State) : s.takeEvent.mode = s.mode := by
  unfold State.takeEvent; split <;> rfl
@[simp] theorem takeEvent_armed (s : State) : s.takeEvent.armed = s.armed := by
  unfold State.takeEvent; split <;> rfl
@[simp] theorem takeEvent_tickPend (s : State) : s.takeEvent.tickPend = s.tickPend := by
  unfold State.takeEvent; split <;> rfl
@[simp] theorem takeEvent_rainR (s : State) : s.takeEvent.rainR = s.rainR := by
  unfold State.takeEvent; split <;> rfl
@[simp] theorem takeEvent_rainG (s : State) : s.takeEvent.rainG = s.rainG := by
  unfold State.takeEvent; split <;> rfl
@[simp] theorem takeEvent_rainB (s : State) : s.takeEvent.rainB = s.rainB := by
  unfold State.takeEvent; split <;> rfl
@[simp] theorem takeEvent_rainPh (s : State) : s.takeEvent.rainPh = s.rainPh := by
  unfold State.takeEvent; split <;> rfl
@[simp] theorem takeEvent_sample (s : State) : s.takeEvent.sample = s.sample := by
  unfold State.takeEvent; split <;> rfl
@[simp] theorem takeEvent_ready (s : State) : s.takeEvent.ready = s.ready := by
  unfold State.takeEvent; split <;> rfl
@[simp] theorem takeEvent_adcBusy (s : State) : s.takeEvent.adcBusy = s.adcBusy := by
  unfold State.takeEvent; split <;> rfl
@[simp] theorem takeEvent_adcPend (s : State) : s.takeEvent.adcPend = s.adcPend := by
  unfold State.takeEvent; split <;> rfl
@[simp] theorem takeEvent_adcData (s : State) : s.takeEvent.adcData = s.adcData := by
  unfold State.takeEvent; split <;> rfl
@[simp] theorem takeEvent_line (s : State) : s.takeEvent.line = s.line := by
  unfold State.takeEvent; split <;> rfl
@[simp] theorem takeEvent_strobe (s : State) : s.takeEvent.strobe = s.strobe := by
  unfold State.takeEvent; split <;> rfl
@[simp] theorem takeEvent_resp (s : State) : s.takeEvent.resp = s.resp := by
  unfold State.takeEvent; split <;> rfl
@[simp] theorem takeEvent_out (s : State) : s.takeEvent.out = s.out := by
  unfold State.takeEvent; split <;> rfl
@[simp] theorem takeEvent_halt (s : State) : s.takeEvent.halt = s.halt := by
  unfold State.takeEvent; split <;> rfl
@[simp] theorem takeEvent_fcause (s : State) : s.takeEvent.fcause = s.fcause := by
  unfold State.takeEvent; split <;> rfl
@[simp] theorem takeEvent_fcp (s : State) : s.takeEvent.fcp = s.fcp := by
  unfold State.takeEvent; split <;> rfl
@[simp] theorem takeEvent_fcmd (s : State) : s.takeEvent.fcmd = s.fcmd := by
  unfold State.takeEvent; split <;> rfl
@[simp] theorem takeEvent_wire (s : State) : s.takeEvent.wire = s.wire := by
  unfold State.takeEvent; split <;> rfl
@[simp] theorem takeEvent_strobes (s : State) : s.takeEvent.strobes = s.strobes := by
  unfold State.takeEvent; split <;> rfl

theorem takeEvent_cons (s : State) (e : Event) (rest : List Event) (h : s.sched = e :: rest) :
    s.takeEvent = { s with sched := rest } := by
  unfold State.takeEvent; rw [h]

theorem nextEvent_cons (s : State) (e : Event) (rest : List Event) (h : s.sched = e :: rest) : s.nextEvent = e := by
  unfold State.nextEvent; rw [h]

/-- A free choice is an agent's turn, never a reset. -/
theorem eventOfAgent_ne_reset (a : Agent) (v : Byte) (d : ResetDraws) : eventOfAgent a v ≠ .reset d := by
  cases a <;> simp [eventOfAgent]

/-- Two streams that read alike at every index are equal: the list is the one form of its stream. -/
theorem memRead_ext (s t : State) (h : ∀ a, memRead s a = memRead t a) : s.stream = t.stream :=
  List.ext_getElem? h

/-- The listing of a stream by index is in its canonical form. -/
theorem cells_wf (stream : List Word) : Memory.wf (Memory.cells stream) := by
  unfold Memory.wf Memory.cells
  rw [List.pairwise_iff_getElem]
  intro i j hi hj hij
  simpa using hij

/-- Reading the listing is reading the stream. -/
theorem cells_lookup (s : State) (a : Nat) : (Memory.cells s.stream)[a]? = (memRead s a).map (fun w => (a, w)) := by
  unfold Memory.cells memRead
  rw [List.getElem?_map, List.getElem?_zipIdx]
  cases s.stream[a]? <;> simp

end Sys2Proof.Laws
end

