-- ==== Sys2Proof/Laws/Ops.lean ====
section
/-! SUPPORT. What each shared operation does, said once: bursts, the wheel, the meanings' cases. -/

namespace Sys2Proof.Laws

open Sys2Proof.Machine

theorem setLine_setLine (s : State) (ch : Nat) (a b : Bool) : (s.setLine ch a).setLine ch b = s.setLine ch b := by
  simp [State.setLine, List.set_set]

/-- A symbol leaves its line low and moves nothing else (40_led_encoder.md R100). -/
theorem emit_eq (ch : Nat) (b : Bit) (s : State) : emit ch b s = s.setLine ch false := by
  simp [emit, driveLine, symbolWave, setLine_setLine]

/-- Symbols back to back leave the line low and move nothing else. -/
theorem foldl_emit (ch : Nat) (b : Bit) (bits : Burst) (s : State) :
    (b :: bits).foldl (fun t b => emit ch b t) s = s.setLine ch false := by
  induction bits generalizing s b with
  | nil => simp [emit_eq]
  | cons c cs ih =>
    rw [List.foldl_cons, ih, emit_eq, setLine_setLine]

/-- All a burst does: nothing for no bits, else the line is low and the trace is one burst longer
(40_led_encoder.md R101). -/
theorem burst_eq (ch : Nat) (bits : Burst) (s : State) :
    burst ch bits s =
      if bits = [] then s
      else { s with line := s.line.set ch false, wire := s.wire.modify ch (fun old => old ++ [bits]) } := by
  cases bits with
  | nil => simp [burst]
  | cons b bs =>
    have h : burst ch (b :: bs) s = ((b :: bs).foldl (fun t b => emit ch b t) s).appendBurst ch (b :: bs) := rfl
    rw [h, foldl_emit, if_neg (by simp)]
    rfl

theorem burst_cons (ch : Nat) (b : Bit) (bs : Burst) (s : State) :
    burst ch (b :: bs) s =
      { s with line := s.line.set ch false, wire := s.wire.modify ch (fun old => old ++ [b :: bs]) } := by
  simp [burst_eq]

theorem wireOf_modify_same (s : State) (ch : Nat) (bits : Burst) (h : ch < s.wire.length) :
    (s.wire.modify ch (fun old => old ++ [bits])).getD ch [] = s.wireOf ch ++ [bits] := by
  simp [State.wireOf, List.getD_eq_getElem?_getD, h]

theorem wireOf_modify_other (s : State) (ch c : Nat) (bits : Burst) (h : c ≠ ch) :
    (s.wire.modify ch (fun old => old ++ [bits])).getD c [] = s.wireOf c := by
  simp [State.wireOf, List.getD_eq_getElem?_getD, Ne.symm h]

theorem msbFirst_length {w : Nat} (v : BitVec w) : (msbFirst v).length = w := by simp [msbFirst]

theorem byteBits_length (v : Byte) : (byteBits v).length = 8 := msbFirst_length v

/-- A pixel is 24 bits (40_led_encoder.md R104). -/
theorem pixelBits_length (p : Rgb) : (pixelBits p).length = 24 := by simp [pixelBits, byteBits_length]

/-- A frame is 24 bits a pixel (40_led_encoder.md R105). -/
theorem frameBits_length (px : List Rgb) : (frameBits px).length = 24 * px.length := by
  induction px with
  | nil => rfl
  | cons p ps ih =>
    have h : frameBits (p :: ps) = pixelBits p ++ frameBits ps := rfl
    rw [h, List.length_append, pixelBits_length, ih, List.length_cons]; omega

/-- Everything a primitive send can do (40_led_encoder.md R102 to R104). -/
theorem primitiveSend_next (ch : BitVec 4) (bits : Burst) (s t : State) :
    primitiveSend ch bits s = .next t ↔
      (s.ie = true ∧ t = s.enterFault .unmaskedSend) ∨
      (s.ie = false ∧ t = (burst ch.toNat bits s).advance 1) := by
  unfold primitiveSend raise
  cases s.ie <;> simp [eq_comm]

/-- Everything FRAME does (40_led_encoder.md R105). -/
theorem execFrame_eq (ch : BitVec 4) (px : List Rgb) (s : State) :
    execFrame ch px s = .next
      { s with
        ie := true
        cp := s.cp + (1 + px.length)
        line := if px = [] then s.line else s.line.set ch.toNat false
        wire := if px = [] then s.wire else s.wire.modify ch.toNat (fun old => old ++ [frameBits px]) } := by
  cases px with
  | nil => rfl
  | cons p ps =>
    have h : frameBits (p :: ps) ≠ [] := by
      intro hn
      have := frameBits_length (p :: ps)
      rw [hn] at this
      simp at this
    simp [execFrame, burst_eq, h, State.setIe, State.advance]

/-- Everything STROBE_START can do (42_sampler.md R130). -/
theorem execStrobeStart_next (s t : State) :
    execStrobeStart s = .next t ↔
      (s.adcBusy = true ∧ t = s.enterFault .adcBusyStart) ∨
      (s.adcBusy = false ∧
        t = { s with strobe := false, strobes := s.strobes + 1, adcBusy := true, cp := s.cp + 1 }) := by
  unfold execStrobeStart raise
  cases s.adcBusy <;> simp [eq_comm, strobePulse, State.setStrobe, State.advance]

/-- Everything TAKE_SAMPLE can do (42_sampler.md R132). -/
theorem execTakeSample_next (s t : State) :
    execTakeSample s = .next t ↔
      (s.ready = false ∧ t = s.enterFault .staleTake) ∨
      (s.ready = true ∧ t = { s with
        resp := byteWord s.sample, out := s.out ++ [byteWord s.sample], ready := false, cp := s.cp + 1 }) := by
  unfold execTakeSample raise
  cases s.ready <;> simp [eq_comm, State.respond, State.advance]

/-- Everything WAIT_READY can do (42_sampler.md R133). -/
theorem execWaitReady_next (s t : State) :
    execWaitReady s = .next t ↔
      (s.ready = true ∧ t = s.advance 1) ∨
      (s.ready = false ∧ waitIsHopeless s = true ∧ t = s.enterFault .waitDeadlock) ∨
      (s.ready = false ∧ waitIsHopeless s = false ∧ t = s) := by
  unfold execWaitReady raise
  cases s.ready <;> cases waitIsHopeless s <;> simp [eq_comm]

/-- Everything SET_MODE does on leaving or staying outside Rainbow (43_animation.md R150). -/
theorem execSetMode_other (m : Mode) (s : State) (h : m ≠ .rainbow) :
    execSetMode m s = .next { s with mode := m, armed := false, tickPend := false, cp := s.cp + 1 } := by
  cases m <;> simp_all [execSetMode, State.advance]

/-- Everything SET_MODE 2 can do (43_animation.md R150). -/
theorem execSetMode_rainbow (s t : State) :
    execSetMode .rainbow s = .next t ↔
      ((s.mode ≠ .rainbow ∨ s.cfg.reseedOnRepeat = true) ∧
        t = (seed { s with mode := .rainbow, armed := true }).advance 1) ∨
      (¬ (s.mode ≠ .rainbow ∨ s.cfg.reseedOnRepeat = true) ∧
        t = { s with mode := .rainbow, armed := true, cp := s.cp + 1 }) := by
  simp only [execSetMode]
  split
  · rename_i h
    simp only [h, true_and, not_true_eq_false, false_and, or_false, Host.Outcome.next.injEq]
    exact eq_comm
  · rename_i h
    simp only [h, false_and, not_false_eq_true, true_and, false_or, Host.Outcome.next.injEq, State.advance]
    exact eq_comm

/-- The wheel's step moves only the rainbow registers (43_animation.md R155). -/
theorem adv_frame (s : State) :
    adv s = { s with
      rainR := (adv s).rainR, rainG := (adv s).rainG, rainB := (adv s).rainB, rainPh := (adv s).rainPh } := by
  unfold adv State.setRain
  cases s.rainPh <;> simp only [Colour.next] <;> split <;> rfl

/-- Writing one rainbow channel, read back. -/
theorem rain_setRain (s : State) (c k : Colour) (v : Byte) :
    (s.setRain c v).rain k = if k = c then v else s.rain k := by
  cases c <;> cases k <;> rfl

/-- The next channel of the wheel is another one. -/
theorem next_ne (c : Colour) : c.next ≠ c := by cases c <;> simp [Colour.next]

/-- The channels after one step of the wheel (43_animation.md R155). -/
theorem rain_adv (s : State) (k : Colour) :
    (adv s).rain k =
      if k = s.rainPh.next then
        BitVec.ofNat 8 ((s.rain k).toNat + wheelInc s.cfg.rainStep s.cfg.brightness (s.rain k).toNat)
      else if k = s.rainPh then BitVec.ofNat 8 ((s.rain k).toNat - wheelDec s.cfg.rainStep (s.rain k).toNat)
      else s.rain k := by
  have hr : ∀ (t : State) (c : Colour), ({ t with rainPh := c } : State).rain k = t.rain k := by
    intro t c; cases k <;> rfl
  have h : (adv s).rain k = ((s.setRain s.rainPh (BitVec.ofNat 8 ((s.rain s.rainPh).toNat - wheelDec s.cfg.rainStep (s.rain s.rainPh).toNat))).setRain s.rainPh.next
      (BitVec.ofNat 8 ((s.rain s.rainPh.next).toNat + wheelInc s.cfg.rainStep s.cfg.brightness (s.rain s.rainPh.next).toNat))).rain k := by
    unfold adv
    dsimp only
    split
    · rw [hr]
    · rfl
  rw [h, rain_setRain, rain_setRain]
  by_cases h1 : k = s.rainPh.next
  · subst h1; simp
  · by_cases h2 : k = s.rainPh
    · subst h2; simp [h1]
    · simp [h1, h2]

/-- The phase after one step of the wheel (43_animation.md R155). -/
theorem rainPh_adv (s : State) :
    (adv s).rainPh =
      if (s.rain s.rainPh).toNat - wheelDec s.cfg.rainStep (s.rain s.rainPh).toNat = 0 then s.rainPh.next else s.rainPh := by
  have hs : ∀ (t : State) (c : Colour) (v : Byte), (t.setRain c v).rainPh = t.rainPh := by
    intro t c v; cases c <;> rfl
  unfold adv
  dsimp only
  split
  · rfl
  · rw [hs, hs]

end Sys2Proof.Laws
end

