-- ==== Sys2Proof/Laws/PerInstr.lean ====
section
/-! SUPPORT. Facts about every command as syntax, one lemma per constructor: how long its words are and which opcode its
first word carries (30_encoding.md R75, R78). -/

namespace Sys2Proof.Laws

/-- The opcode of a command (30_encoding.md R75). -/
def opcodeOf : Instr → BitVec 4
  | .nop => 0x0
  | .sendBit _ _ => 0x1
  | .sendByte _ _ => 0x2
  | .sendPixel _ _ => 0x3
  | .frame _ _ => 0x4
  | .irqOff => 0x5
  | .irqOn => 0x6
  | .strobeStart => 0x7
  | .isReady => 0x8
  | .takeSample => 0x9
  | .waitReady => 0xa
  | .setMode _ => 0xb
  | .readRainbow => 0xc
  | .readStatus => 0xd

end Sys2Proof.Laws

namespace Sys2Proof.Laws.EncodeLength

/-- A command's words are as many as its length says (30_encoding.md R78). -/
def Statement (i : Instr) : Prop := (encode i).length = i.length

theorem nop : Statement (.nop) := rfl
theorem sendBit (ch : BitVec 4) (v : Bit) : Statement (.sendBit ch v) := rfl
theorem sendByte (ch : BitVec 4) (byte : Byte) : Statement (.sendByte ch byte) := rfl
theorem sendPixel (ch : BitVec 4) (rgb : Rgb) : Statement (.sendPixel ch rgb) := rfl
theorem frame (ch : BitVec 4) (px : List Rgb) : Statement (.frame ch px) := by simp [Statement, encode, Instr.length, Nat.add_comm]
theorem irqOff : Statement (.irqOff) := rfl
theorem irqOn : Statement (.irqOn) := rfl
theorem strobeStart : Statement (.strobeStart) := rfl
theorem isReady : Statement (.isReady) := rfl
theorem takeSample : Statement (.takeSample) := rfl
theorem waitReady : Statement (.waitReady) := rfl
theorem setMode (m : Mode) : Statement (.setMode m) := rfl
theorem readRainbow : Statement (.readRainbow) := rfl
theorem readStatus : Statement (.readStatus) := rfl

end Sys2Proof.Laws.EncodeLength

namespace Sys2Proof.Laws.EncodeOpcode

/-- The first word of a command carries its opcode (30_encoding.md R70, R75). -/
def Statement (i : Instr) : Prop := ∃ w rest, encode i = w :: rest ∧ opField w = opcodeOf i

theorem nop : Statement (.nop) := ⟨_, _, rfl, opField_commandWord _ _ _⟩
theorem sendBit (ch : BitVec 4) (v : Bit) : Statement (.sendBit ch v) := ⟨_, _, rfl, opField_commandWord _ _ _⟩
theorem sendByte (ch : BitVec 4) (byte : Byte) : Statement (.sendByte ch byte) := ⟨_, _, rfl, opField_commandWord _ _ _⟩
theorem sendPixel (ch : BitVec 4) (rgb : Rgb) : Statement (.sendPixel ch rgb) := ⟨_, _, rfl, opField_commandWord _ _ _⟩
theorem frame (ch : BitVec 4) (px : List Rgb) : Statement (.frame ch px) := ⟨_, _, rfl, opField_commandWord _ _ _⟩
theorem irqOff : Statement (.irqOff) := ⟨_, _, rfl, opField_commandWord _ _ _⟩
theorem irqOn : Statement (.irqOn) := ⟨_, _, rfl, opField_commandWord _ _ _⟩
theorem strobeStart : Statement (.strobeStart) := ⟨_, _, rfl, opField_commandWord _ _ _⟩
theorem isReady : Statement (.isReady) := ⟨_, _, rfl, opField_commandWord _ _ _⟩
theorem takeSample : Statement (.takeSample) := ⟨_, _, rfl, opField_commandWord _ _ _⟩
theorem waitReady : Statement (.waitReady) := ⟨_, _, rfl, opField_commandWord _ _ _⟩
theorem setMode (m : Mode) : Statement (.setMode m) := ⟨_, _, rfl, opField_commandWord _ _ _⟩
theorem readRainbow : Statement (.readRainbow) := ⟨_, _, rfl, opField_commandWord _ _ _⟩
theorem readStatus : Statement (.readStatus) := ⟨_, _, rfl, opField_commandWord _ _ _⟩

end Sys2Proof.Laws.EncodeOpcode
end

