-- ==== Sys2Proof/Laws/Step.lean ====
section
/-! SUPPORT. Everything a step can do, said once. -/

namespace Sys2Proof.Laws

open Sys2Proof.Machine

/-- On an admitted, running block the step is the next event's turn. -/
theorem step_of_moves (s : State) (e : Event) (h : s.Moves e) : step s = turn e s.takeEvent := by
  unfold step stepOnce
  rw [h.admitted, h.event]
  simp only [if_true]
  unfold happen
  cases e <;> simp [h.running, turn]

/-- A reset happens whether or not the block has halted (60_exceptions.md R243). -/
theorem step_of_reset (s : State) (d : ResetDraws) (ha : s.cfg.admitted = true) (he : s.nextEvent = .reset d) :
    step s = .next (s.takeEvent.resetBy d) := by
  unfold step stepOnce
  rw [ha, he]
  simp [happen]

/-- A halted block takes no step but a reset (10_state.md R34). -/
theorem step_of_halted (s : State) (ha : s.cfg.admitted = true) (hh : s.halt = true)
    (hn : ∀ d, s.nextEvent ≠ .reset d) : step s = .fault (.halted s.fcause) := by
  unfold step stepOnce
  rw [ha]
  simp only [if_true]
  unfold happen
  split
  · exact absurd ‹_› (hn _)
  · simp [hh]

/-- If a step answers a next state, a reset happened or the block was running and an agent took its turn. -/
theorem step_next (s t : State) (h : step s = .next t) :
    s.cfg.admitted = true ∧
      ((∃ d, s.nextEvent = .reset d ∧ t = s.takeEvent.resetBy d) ∨
       (s.halt = false ∧ (∀ d, s.nextEvent ≠ .reset d) ∧ turn s.nextEvent s.takeEvent = .next t)) := by
  cases ha : s.cfg.admitted with
  | false => simp [step, stepOnce, ha] at h
  | true =>
    refine ⟨rfl, ?_⟩
    by_cases hr : ∃ d, s.nextEvent = .reset d
    · obtain ⟨d, hd⟩ := hr
      rw [step_of_reset s d ha hd] at h
      exact .inl ⟨d, hd, by simpa using h.symm⟩
    · have hn : ∀ d, s.nextEvent ≠ .reset d := fun d hd => hr ⟨d, hd⟩
      cases hh : s.halt with
      | true => rw [step_of_halted s ha hh hn] at h; cases h
      | false => exact .inr ⟨rfl, hn, by rw [← h, step_of_moves s _ ⟨ha, hh, rfl⟩]⟩

/-- Everything MAIN's turn can do (30_encoding.md R79, 10_state.md R38). -/
theorem mainTurn_cases (s : State) :
    (s.stream.length ≤ s.cp ∧ mainTurn s = .next s) ∨
    (s.cp < s.stream.length ∧ ∃ i, fetch s = .ok i ∧ mainTurn s = exec i s) ∨
    (s.cp < s.stream.length ∧ ∃ e, fetch s = .error e ∧ mainTurn s = .next (s.enterFault .illegalCmd)) := by
  unfold mainTurn hasCommand
  by_cases hc : s.cp < s.stream.length
  · simp only [hc, decide_true, if_true]
    cases hf : fetch s with
    | ok i => exact .inr (.inl ⟨trivial, i, rfl, rfl⟩)
    | error e => exact .inr (.inr ⟨trivial, e, rfl, rfl⟩)
  · exact .inl ⟨Nat.le_of_not_lt hc, by simp [hc]⟩

/-- The run that starts in a state is a run. -/
theorem isRun_runFrom (s : State) : IsRun (runFrom s) := by
  intro n
  have h : runFrom s (n + 1) = stepOrStay (runFrom s n) := rfl
  rw [h]
  unfold stepOrStay
  cases hs : step (runFrom s n) with
  | next t => exact .inl rfl
  | fault f => exact .inr ⟨by simp, rfl⟩
  | refused f => exact .inr ⟨by simp, rfl⟩

/-- Fetching looks at the stream, the pointer and the number of lines only. -/
theorem fetch_takeEvent (s : State) : fetch s.takeEvent = fetch s := by simp [fetch]

/-- The command stream is read where MAIN's turn finds its word. -/
theorem fetch_of_word (s : State) (w : Word) (h : memRead s s.cp = some w) :
    fetch s = decodeWords s.cfg.nch w (s.stream.drop (s.cp + 1)) := by
  unfold memRead at h
  have hlt : s.cp < s.stream.length := by
    by_contra hn
    rw [List.getElem?_eq_none (Nat.le_of_not_lt hn)] at h
    cases h
  have hd : s.stream.drop s.cp = w :: s.stream.drop (s.cp + 1) := by
    rw [List.drop_eq_getElem_cons hlt]
    rw [List.getElem?_eq_getElem hlt] at h
    rw [Option.some.inj h]
  unfold fetch decode
  rw [hd]

end Sys2Proof.Laws
end

