-- ==== Sys2Proof/Machine/Assembler.lean ====
section
/-! DEFINITION. The assembler syntax and the pseudo-instructions (30_encoding.md R80, R81). -/

namespace Sys2Proof.Machine

/-- The pseudo-instructions of R81. -/
inductive Pseudo where
  | sample
  | nextSample
  | offPixel (ch : BitVec 4)
  | critPixel (ch : BitVec 4) (rgb : Rgb)
  | blank (ch : BitVec 4) (n : Nat)
deriving DecidableEq, Repr

/-- The expansion of a pseudo-instruction (R81). -/
def expand : Pseudo → List Instr
  | .sample => [.waitReady, .takeSample]
  | .nextSample => [.waitReady, .takeSample, .strobeStart]
  | .offPixel ch => [.sendPixel ch { r := 0, g := 0, b := 0 }]
  | .critPixel ch rgb => [.irqOff, .sendPixel ch rgb, .irqOn]
  | .blank ch n => [.frame ch (List.replicate n { r := 0, g := 0, b := 0 })]

/-- A mode's name in the syntax (R80). -/
def modeName : Mode → String
  | .default => "DEFAULT"
  | .shine => "SHINE"
  | .rainbow => "RAINBOW"

/-- A channel operand, `L` and a decimal number (R80). -/
def channelName (ch : BitVec 4) : String := "L" ++ toString ch.toNat

/-- A bit operand, `0` or `1` (R80). -/
def bitName (v : Bit) : String := if v then "1" else "0"

/-- A byte operand in decimal (R80). -/
def byteName (v : Byte) : String := toString v.toNat

/-- A colour operand, three bytes in the order red, green, blue (R80). -/
def colourName (p : Rgb) : String := byteName p.r ++ ", " ++ byteName p.g ++ ", " ++ byteName p.b

/-- The lines of a command in the assembler syntax; a FRAME's header line is followed by one `.pix` line a pixel
(R80). -/
def assembly : Instr → List String
  | .nop => ["NOP"]
  | .sendBit ch v => ["SEND_BIT " ++ channelName ch ++ ", " ++ bitName v]
  | .sendByte ch byte => ["SEND_BYTE " ++ channelName ch ++ ", " ++ byteName byte]
  | .sendPixel ch rgb => ["SEND_PIXEL " ++ channelName ch ++ ", " ++ colourName rgb]
  | .frame ch px =>
    ("FRAME " ++ channelName ch ++ ", " ++ toString px.length) :: px.map (fun p => ".pix " ++ colourName p)
  | .irqOff => ["IRQ_OFF"]
  | .irqOn => ["IRQ_ON"]
  | .strobeStart => ["STROBE_START"]
  | .isReady => ["IS_READY"]
  | .takeSample => ["TAKE_SAMPLE"]
  | .waitReady => ["WAIT_READY"]
  | .setMode m => ["SET_MODE " ++ modeName m]
  | .readRainbow => ["READ_RAINBOW"]
  | .readStatus => ["READ_STATUS"]

end Sys2Proof.Machine
end

