-- ==== Sys2Proof/Tests/Slice0.lean ====
section
/-! SUPPORT. The model's own tests: the well-formedness checks, words written out from the encodings and the vectors of
95_test_vectors.md, and a witness for the hypotheses of every obligation that has some. Expected values are the
spec's; no test states a value the model chose. -/

namespace Sys2Proof.Tests

open Sys2Proof.Machine

/-! Helpers: a small configuration with the vectors' `NCH = 8`, `B = 6`, `S = 2` (95_test_vectors.md E8), and states
on it with a given stream and schedule. -/

/-- A configuration of numerals only. -/
def cfg8 : Config.Params :=
  { Config.exampleParams with
    tTol := 0, tResetGap := 0, tSettle := 0, tConv := 0, tickPeriod := 0, nbands := 7, brightness := 6, rainStep := 2 }

/-- Values for the registers a reset leaves unspecified. -/
def draws : ResetDraws := { rainR := 2, rainG := 0, rainB := 4, rainPh := .blue, sample := 0x11, adcData := 0x5A }

/-- A block after reset with a command stream and a schedule. -/
def start (ws : List Word) (events : List Event) : State :=
  { State.atReset cfg8 ws draws with sched := events }

/-- The state after `n` steps, if there is one. -/
def after : Nat → State → Option State
  | 0, s => some s
  | n + 1, s =>
    match step s with
    | .next t => after n t
    | .fault _ => none
    | .refused _ => none

/-- What a state shows after MAIN has run the command of the words `ws` on `s`. -/
def runOne {α : Type} (ws : List Word) (s : State) (f : State → α) : Option α :=
  (after 1 { s with stream := ws, cp := 0, sched := [.main] }).map f

/-! WellFormed: an ill-formed term for each check (30_encoding.md R72, R73). -/

theorem test_wf_sendBit_channel : Instr.wf 8 (.sendBit 8 true) = false ∧ Instr.wf 8 (.sendBit 7 true) = true := by decide
theorem test_wf_sendByte_channel : Instr.wf 8 (.sendByte 8 0) = false ∧ Instr.wf 8 (.sendByte 7 0) = true := by decide
theorem test_wf_sendPixel_channel :
    Instr.wf 8 (.sendPixel 15 { r := 0, g := 0, b := 0 }) = false ∧
      Instr.wf 16 (.sendPixel 15 { r := 0, g := 0, b := 0 }) = true := by decide
theorem test_wf_frame_channel : Instr.wf 1 (.frame 1 []) = false ∧ Instr.wf 2 (.frame 1 []) = true := by decide
theorem test_wf_frame_any_count (n : Nat) (p : Rgb) :
    Instr.wf 8 (.frame 0 (List.replicate n p)) = decide (n ≤ 65535) := by
  simp [Instr.wf, channelExists, countFits]
theorem test_wf_frame_count (p : Rgb) :
    Instr.wf 8 (.frame 0 (List.replicate 65536 p)) = false ∧ Instr.wf 8 (.frame 0 (List.replicate 65535 p)) = true :=
  ⟨test_wf_frame_any_count 65536 p, test_wf_frame_any_count 65535 p⟩

/-! Decoding: words from the patterns of 30_encoding.md R75 and from 95_test_vectors.md V1. -/

/-- The decoder's answer on a stream, on eight lines. -/
def read (ws : List Word) : Option Instr := (decode 8 ws 0).toOption

theorem test_decode_nop : read [0x00000000] = some .nop ∧ read [0x00000001] = none := by decide
theorem test_decode_sendBit :
    read [0x17000001] = some (.sendBit 7 true) ∧ read [0x18000000] = none ∧ read [0x10000002] = none := by decide
theorem test_decode_sendByte : read [0x230000FF] = some (.sendByte 3 0xFF) ∧ read [0x20000100] = none := by decide
theorem test_decode_sendPixel :
    read [0x37FFFFFF] = some (.sendPixel 7 { r := 255, g := 255, b := 255 }) ∧ read [0x3FFFFFFF] = none ∧
      (decode 16 [0x3FFFFFFF] 0).toOption = some (.sendPixel 15 { r := 255, g := 255, b := 255 }) := by decide
theorem test_decode_frame :
    read [0x40000000] = some (.frame 0 []) ∧ read [0x40010000] = none ∧ read [0x40000001] = none ∧
      read [0x40000001, 0x01000000] = none ∧
      read [0x40000001, 0x00ABCDEF] = some (.frame 0 [{ r := 0xAB, g := 0xCD, b := 0xEF }]) := by decide
theorem test_decode_irqOff : read [0x50000000] = some .irqOff ∧ read [0x50000001] = none := by decide
theorem test_decode_irqOn : read [0x60000000] = some .irqOn ∧ read [0x61000000] = none := by decide
theorem test_decode_strobeStart : read [0x70000000] = some .strobeStart ∧ read [0x70000001] = none := by decide
theorem test_decode_isReady : read [0x80000000] = some .isReady ∧ read [0x88000000] = none := by decide
theorem test_decode_takeSample : read [0x90000000] = some .takeSample ∧ read [0x90000001] = none := by decide
theorem test_decode_waitReady : read [0xA0000000] = some .waitReady ∧ read [0xA0800000] = none := by decide
theorem test_decode_setMode :
    read [0xB0000000] = some (.setMode .default) ∧ read [0xB0000001] = some (.setMode .shine) ∧
      read [0xB0000002] = some (.setMode .rainbow) ∧ read [0xB0000003] = none ∧ read [0xB0000004] = none := by decide
theorem test_decode_readRainbow : read [0xC0000000] = some .readRainbow ∧ read [0xC0000001] = none := by decide
theorem test_decode_readStatus : read [0xD0000000] = some .readStatus ∧ read [0xD8000000] = none := by decide
theorem test_decode_reserved : read [0xE0000000] = none ∧ read [0xFFFFFFFF] = none ∧ read [] = none := by decide

/-- 30_encoding.md R79: a rejected word is rejected by name. -/
theorem test_decode_reasons :
    (∀ i, decode 8 [0xE0000000] 0 ≠ .ok i) ∧ decode 8 [0xE0000000] 0 = .error .reservedOpcode ∧
      decode 8 [0x1F000001] 0 = .error .noSuchChannel ∧ decode 8 [0xB0000003] 0 = .error .modeThree ∧
      decode 8 [0x43000002, 0x00FF0000] 0 = .error .frameDataMissing := by
  refine ⟨fun i h => ?_, by decide, by decide, by decide, by decide⟩
  have h2 : decode 8 [0xE0000000] 0 = .error .reservedOpcode := by decide
  rw [h2] at h
  cases h

/-- 95_test_vectors.md V2, P2: encodings of the vectors' commands. -/
theorem test_encode :
    encode (.sendByte 1 0x80) = [0x21000080] ∧ encode (.sendPixel 0 { r := 1, g := 2, b := 3 }) = [0x30010203] ∧
      encode (.frame 1 [{ r := 0xFF, g := 0, b := 0x80 }]) = [0x41000001, 0x00FF0080] := by decide

/-- The number of 30_encoding.md R70's words that the host hands over: the first word in the low bits. -/
theorem test_decodeTableWord :
    decodeTableWord 32 0x70000000 = some .strobeStart ∧ decodeTableWord 32 0xF0000000 = none ∧
      decodeTableWord 32 0x40000001 = some (.frame 0 [{ r := 0, g := 0, b := 0 }]) ∧
      decodeTableWord 64 0x00ABCDEF40000001 = some (.frame 0 [{ r := 0xAB, g := 0xCD, b := 0xEF }]) := by decide

/-- `withFetchWord` puts the instruction where the very next step runs it, from reset (95_test_vectors.md V6, V3). -/
theorem test_withFetchWord :
    ((after 1 (State.reset.withFetchWord 32 0xD0000000)).map (fun s => (s.out, s.cp))) = some ([0], 1) ∧
      ((after 1 (State.reset.withFetchWord 32 0x60000000)).map (fun s => (s.ie, s.cp))) = some (true, 1) := by decide

/-! The encoder (95_test_vectors.md V2). -/

theorem test_sendBit :
    runOne [0x12000001] (start [] []) (fun s => (s.wireOf 2, s.cp, s.halt)) = some ([[true]], 1, false) ∧
      runOne [0x12000001] { start [] [] with ie := true } (fun s => (s.wireOf 2, s.fcause.code, s.fcp, s.fcmd)) =
        some ([], 2, 0, 0x12000001) := by decide
theorem test_sendByte :
    runOne [0x200000A5] (start [] []) (fun s => s.wireOf 0) =
        some [[true, false, true, false, false, true, false, true]] ∧
      runOne [0x20000001] (start [] []) (fun s => s.wireOf 0) =
        some [[false, false, false, false, false, false, false, true]] := by decide
theorem test_sendPixel :
    runOne [0x30FF0000] (start [] []) (fun s => s.wireOf 0) =
        some [List.replicate 8 true ++ List.replicate 16 false] ∧
      runOne [0x300000FF] (start [] []) (fun s => s.wireOf 0) =
        some [List.replicate 16 false ++ List.replicate 8 true] := by decide
theorem test_frame_empty :
    runOne [0x40000000] (start [] []) (fun s => (s.wireOf 0, s.ie, s.cp)) = some ([], true, 1) := by decide
theorem test_frame_two_pixels :
    runOne [0x43000002, 0x00FF0000, 0x000000FF] (start [] []) (fun s => (s.wireOf 3, s.ie, s.cp)) =
      some ([List.replicate 8 true ++ List.replicate 32 false ++ List.replicate 8 true], true, 3) := by decide

/-! Masking (V3). -/

theorem test_irqOff :
    runOne [0x50000000] { start [] [] with ie := true } (fun s => (s.ie, s.cp)) = some (false, 1) := by decide
theorem test_irqOn :
    runOne [0x60000000] { start [] [] with adcPend := true } (fun s => (s.ie, s.adcPend, adcIsrReady s)) =
      some (true, true, true) := by decide

/-! The sampler (V4). -/

theorem test_strobeStart :
    runOne [0x70000000] (start [] []) (fun s => (s.adcBusy, s.strobes, s.ready, s.strobe)) =
        some (true, 1, false, false) ∧
      runOne [0x70000000] { start [] [] with adcBusy := true } (fun s => (s.fcause.code, s.strobes)) =
        some (3, 0) := by decide
theorem test_isReady :
    runOne [0x80000000] { start [] [] with ready := true } (fun s => (s.resp, s.out, s.ready)) =
      some (1, [1], true) := by decide
theorem test_takeSample :
    runOne [0x90000000] { start [] [] with ready := true, sample := 0x5A } (fun s => (s.resp, s.ready, s.sample)) =
        some (0x5A, false, 0x5A) ∧
      runOne [0x90000000] (start [] []) (fun s => (s.fcause.code, s.out)) = some (4, []) := by decide
theorem test_waitReady :
    runOne [0xA0000000] { start [] [] with ready := true } (fun s => (s.cp, s.ready)) = some (1, true) ∧
      runOne [0xA0000000] { start [] [] with ie := true, adcPend := true } (fun s => (s.cp, s.halt, adcIsrReady s)) =
        some (0, false, true) := by decide
theorem test_waitReady_deadlock :
    runOne [0xA0000000] { start [] [] with adcBusy := true } (fun s => s.fcause.code) = some 5 ∧
      runOne [0xA0000000] { start [] [] with ie := true } (fun s => (s.fcause.code, s.cp)) = some (5, 0) := by decide
theorem test_adc :
    (after 1 { start [] [.adc 0x20] with adcBusy := true, adcPend := true }).map
      (fun s => (s.adcData, s.adcBusy, s.adcPend)) = some (0x20, false, true) := by decide
theorem test_adcIsr :
    (after 1 { start [] [.adcIsr] with ie := true, adcPend := true }).map (fun s => (s.sample, s.ready, s.adcPend)) =
        some (0x5A, true, false) ∧
      (after 1 { start [] [.adcIsr] with adcPend := true }).map (fun s => (s.ready, s.adcPend)) =
        some (false, true) := by decide

/-! Mode and animation (V5, E8). -/

theorem test_setMode_rainbow :
    runOne [0xB0000002] { start [] [] with mode := .rainbow, armed := true, tickPend := true }
        (fun s => (s.rainR, s.rainG, s.rainB, s.rainPh.code, s.tickPend)) = some (0, 6, 0, 1, true) ∧
      runOne [0xB0000002]
          { start [] [] with
            mode := .rainbow, armed := true, tickPend := true, cfg := { cfg8 with reseedOnRepeat := false } }
          (fun s => (s.rainR, s.rainG, s.rainB, s.rainPh.code, s.tickPend)) = some (2, 0, 4, 2, true) := by decide
theorem test_setMode_shine :
    runOne [0xB0000001] { start [] [] with mode := .rainbow, armed := true, tickPend := true }
      (fun s => (s.mode, s.armed, s.tickPend, s.rainR, s.rainB)) = some (.shine, false, false, 2, 4) := by decide
theorem test_readRainbow :
    runOne [0xC0000000] { start [] [] with rainR := 255, rainG := 128, rainB := 1 } (fun s => s.resp) =
      some 0x00FF8001 := by decide
theorem test_timer :
    (after 1 { start [] [.timer] with armed := true, mode := .rainbow }).map (fun s => s.tickPend) = some true ∧
      (after 1 (start [] [.timer])).map (fun s => s.tickPend) = some false := by decide

/-- The phase and colour of a state, for the tables of E8 and V5. -/
def wheel (s : State) : Nat × Nat × Nat × Nat := (s.rainR.toNat, s.rainG.toNat, s.rainB.toNat, s.rainPh.code.toNat)

/-- E8 with `B = 6`, `S = 2`. -/
theorem test_wheel_e8 :
    (List.range 10).map (fun k => wheel (adv^[k] (seed (start [] [])))) =
      [(0, 6, 0, 1), (0, 4, 2, 1), (0, 2, 4, 1), (0, 0, 6, 2), (2, 0, 4, 2), (4, 0, 2, 2), (6, 0, 0, 0), (4, 2, 0, 0),
        (2, 4, 0, 0), (0, 6, 0, 1)] := by decide
/-- V5 with `B = 5`, `S = 2`: the third tick of each phase moves only 1. -/
theorem test_wheel_v5 :
    (List.range 10).map (fun k => wheel (adv^[k] (seed { start [] [] with cfg := { cfg8 with brightness := 5 } }))) =
      [(0, 5, 0, 1), (0, 3, 2, 1), (0, 1, 4, 1), (0, 0, 5, 2), (2, 0, 3, 2), (4, 0, 1, 2), (5, 0, 0, 0), (3, 2, 0, 0),
        (1, 4, 0, 0), (0, 5, 0, 1)] := by decide
theorem test_tickIsr :
    (after 1 { start [] [.tickIsr] with ie := true, tickPend := true, rainR := 0, rainG := 2, rainB := 4, rainPh := .green }).map
      (fun s => (s.tickPend, wheel s)) = some (false, 0, 0, 6, 2) := by decide

/-! Control (V6) and faults (V7). -/

theorem test_nop :
    (after 1 { start (List.replicate 8 0) [.main] with cp := 7 }).map (fun s => (s.cp, s.out, s.halt)) =
      some (8, [], false) := by decide
theorem test_readStatus :
    runOne [0xD0000000] { start [] [] with ie := true, ready := true } (fun s => s.resp) = some 0x21 ∧
      runOne [0xD0000000]
          { start [] [] with
            ie := true, mode := .rainbow, armed := true, tickPend := true, ready := true, adcBusy := true, adcPend := true }
          (fun s => s.resp) = some 0xFD := by decide
theorem test_decode_before_other_faults :
    runOne [0x1F000001] { start [] [] with ie := true } (fun s => s.fcause.code) = some 1 ∧
      runOne [0x90000001] (start [] []) (fun s => s.fcause.code) = some 1 := by decide
theorem test_no_step_after_fault :
    after 2 (start [0xE0000000] [.main, .timer]) = none ∧
      (after 2 (start [0xE0000000] [.main, .reset draws])).map (fun s => (s.halt, s.fcause)) =
        some (false, .none) := by decide

/-! Symbol timing (E2): a pixel with 4 ones lasts 28.2 microseconds. -/

theorem test_burst_time : burstTime cfg8 (pixelBits { r := 0x10, g := 0x20, b := 0x30 }) = 28200 := by decide

/-! The reference host and the assembler (E3, E4, E7, V8; 30_encoding.md R80, R81). -/

theorem test_litCount :
    [0, 30, 31, 61, 62, 247, 248, 254, 255].map (litCountOf cfg8) = [0, 0, 1, 1, 2, 7, 8, 8, 8] := by decide
theorem test_render_default :
    encode (renderCommand Config.exampleParams .default { r := 0, g := 0, b := 0 }
        { chan := 6, pixelCount := 8, litCount := 6 }) =
      [0x46000008, 0x0000FF00, 0x0000FF00, 0x0000FF00, 0x0000FF00, 0x0000FF00, 0x00FFFF00, 0, 0] := by decide
theorem test_shine_ramp :
    (List.range 8).map (fun i => shineLevel 255 i 5) = [0, 0, 28, 112, 252, 0, 0, 0] := by decide
/-- A host after strip 3's STROBE_START, with `s` read and 3 stored for that strip (E5). -/
def atStrip3 (m : Mode) (s : Byte) : HostState :=
  { mode := m, strips := (List.range 8).map (fun k => { chan := k, pixelCount := 8, litCount := k }), current := 3
    phase := .strobe s }

/-- E5: in Default the same count issues no FRAME; in Rainbow READ_RAINBOW, then one FRAME of 8 pixels in the colour
read, on every pixel below the count. -/
theorem test_skip :
    hostCommand cfg8 (hostAfter cfg8 (atStrip3 .default 100) 0) = .waitReady ∧
      (hostAfter cfg8 (atStrip3 .default 100) 0).current = 4 ∧
      hostCommand cfg8 (hostAfter cfg8 (atStrip3 .rainbow 100) 0) = .readRainbow ∧
      encode (hostCommand cfg8 (hostAfter cfg8 (hostAfter cfg8 (atStrip3 .rainbow 100) 0) 0x00000402)) =
        [0x43000008, 0x402, 0x402, 0x402, 0, 0, 0, 0, 0] := by decide
/-- The program of 95_test_vectors.md P5, for its two strips and its samples 96 and 224, after the boot of R283. -/
theorem test_host_words :
    hostWords
        { Config.exampleParams with
          nch := 2, strips := [{ chan := 0, pixelCount := 8 }, { chan := 1, pixelCount := 8 }] }
        .default (fun i => if i = 4 then 96 else 224) 11 =
      [0xB0000000, 0x60000000, 0x70000000, 0xA0000000, 0x90000000, 0x70000000, 0x40000008] ++
      [0xFF00, 0xFF00, 0xFF00, 0, 0, 0, 0, 0, 0xA0000000, 0x90000000, 0x70000000, 0x41000008] ++
      [0xFF00, 0xFF00, 0xFF00, 0xFF00, 0xFF00, 0xFFFF00, 0xFFFF00, 0] := by decide
/-- The rig's host reads the sample from the block's own `RESP[7:0]`, and writes its next command after the last. -/
theorem test_rig_reads_resp :
    let g : Rig :=
      { host := { atStrip3 .default 0 with phase := .take }
        block := { start [0x90000000] [] with cp := 1, resp := 0x000000E0 } }
    g.hostTurn.host.phase = .strobe 0xE0 ∧ g.hostTurn.block.stream = [0x90000000, 0x70000000] := by decide
/-- While the block still has a command to run, the host waits. -/
theorem test_rig_waits :
    let g := Rig.start (start [] [.main]) .shine
    g.block.stream = [0xB0000001] ∧ g.hostTurn = g := by decide
theorem test_expand :
    expand .nextSample = [.waitReady, .takeSample, .strobeStart] ∧
      expand (.blank 2 1) = [.frame 2 [{ r := 0, g := 0, b := 0 }]] := by decide
theorem test_assembly :
    assembly (.sendPixel 1 { r := 16, g := 32, b := 48 }) = ["SEND_PIXEL L1, 16, 32, 48"] := by decide

/-! Witnesses: concrete states and operands that meet an obligation's hypotheses together. -/

/-- Where the machine goes on, it steps. -/
theorem steps_of_after (s : State) (h : (after 1 s).isSome = true) : ∃ t, step s = .next t := by
  cases hs : step s with
  | next t => exact ⟨t, rfl⟩
  | fault f => simp [after, hs] at h
  | refused f => simp [after, hs] at h

/-- What holds of the state after one step holds of a next state. -/
theorem step_of_after (s : State) (p : State → Bool) (h : (after 1 s).any p = true) :
    ∃ t, step s = .next t ∧ p t = true := by
  cases hs : step s with
  | next t => exact ⟨t, rfl, by simpa [after, hs] using h⟩
  | fault f => simp [after, hs] at h
  | refused f => simp [after, hs] at h

/-- The configuration is admitted. -/
theorem cfg8_admitted : cfg8.admitted = true := by decide

/-- Any word can stand in command position on MAIN's turn: the witness of every RunsAs and RaisesIllegal. -/
theorem witness_mainAt (w : Word) : (start [w] [.main]).MainAt w := ⟨⟨cfg8_admitted, rfl, rfl⟩, rfl⟩

/-- Any event can be next. -/
theorem witness_moves (ws : List Word) (e : Event) : (start ws [e]).Moves e := ⟨cfg8_admitted, rfl, rfl⟩

/-- A state in the middle of everything that meets the invariants: Rainbow, a tick and a completion pending. -/
def busy (ws : List Word) (events : List Event) : State :=
  { start ws events with
    ie := true, mode := .rainbow, armed := true, tickPend := true, adcBusy := true, adcPend := true
    rainR := 2, rainG := 0, rainB := 4, rainPh := .blue }

theorem busy_inv (ws : List Word) (events : List Event) : (busy ws events).Inv := by
  constructor <;> simp [busy, start, State.atReset]

theorem busy_wheelInv (ws : List Word) (events : List Event) : (busy ws events).WheelInv := by
  constructor
  · intro c
    cases c <;> simp [busy, start, State.rain, State.atReset, cfg8]
  · simp [busy, start, State.rain, State.atReset, cfg8, Colour.next]
  · simp [busy, start, State.rain, State.atReset, Colour.next]

theorem witness_ResetPutsEveryRegisterToItsTableValue :
    (busy [0] [.reset draws]).cfg.admitted = true ∧ (busy [0] [.reset draws]).nextEvent = .reset draws := by decide

theorem witness_EveryStepKeepsTheInvariants :
    ∃ s t : State, s.Inv ∧ step s = .next t :=
  let ⟨t, h⟩ := steps_of_after (busy [0xB0000000] [.main]) (by decide)
  ⟨_, t, busy_inv _ _, h⟩

/-- A state whose next tick ends the blue phase. -/
def lastBlue : State := { busy [] [.tickIsr] with rainR := 4, rainB := 2 }

theorem witness_EveryStepKeepsTheWheelInvariant :
    ∃ s t : State, s.WheelInv ∧ (∀ d, s.nextEvent ≠ .reset d) ∧ step s = .next t ∧ t.rainPh ≠ s.rainPh := by
  obtain ⟨t, h, hp⟩ := step_of_after lastBlue (fun t => decide (t.rainPh = .red)) (by decide)
  refine ⟨lastBlue, t, ⟨fun c => ?_, by decide, by decide⟩, fun d hd => by (cases hd), h, ?_⟩
  · cases c <;> decide
  · rw [of_decide_eq_true hp]
    decide

theorem witness_EnteringRainbowSeedsTheWheel :
    (start [] []).cfg.admitted = true ∧ (start [] []).mode ≠ .rainbow := by decide

theorem witness_DecodeOfEncodeIsTheCommand :
    Instr.wf 8 (.frame 7 [{ r := 1, g := 2, b := 3 }]) = true ∧ Instr.wf 16 (.sendBit 15 true) = true ∧
      Instr.wf 8 .nop = true := by decide

/-- For the three statements about a word that decodes. -/
theorem witness_DecodedWordsAreTheEncoding :
    decode 8 [0x40000001, 0x00ABCDEF] 0 = .ok (.frame 0 [{ r := 0xAB, g := 0xCD, b := 0xEF }]) ∧
      [(0x40000001 : Word), 0x00ABCDEF][0]? = some 0x40000001 := by decide
theorem witness_FirstWordGivesTheLength :
    decode 8 [0x40000000] 0 = .ok (.frame 0 []) ∧ [(0x40000000 : Word)][0]? = some 0x40000000 ∧
      decode 8 [0xD0000000] 0 = .ok .readStatus := by decide
theorem witness_DecodedWordMatchesItsRowOnly :
    decode 8 [0xB0000002] 0 = .ok (.setMode .rainbow) ∧ [(0xB0000002 : Word)][0]? = some 0xB0000002 ∧
      ∃ row ∈ opcodeTable, row.mnemonic = "SET_MODE" := by decide

/-- One state for each clause of the list of R76, and one word on the legal side of each. -/
theorem witness_ExactlyTheListedWordsAreIllegal :
    (∀ w : Word, (start [w] [.main]).MainAt w) ∧
      [0xE0000000, 0xF0000000, 0x00000001, 0x58000000, 0x10000002, 0x20000100, 0x40010000, 0xB0000004, 0x18000000,
        0x38000000, 0xB0000003, 0x40000001].all (fun w => (read [w]).isNone) = true ∧
      read [0x40000001, 0x01000000] = none ∧
      [0xD0000000, 0x50000000, 0x10000001, 0x200000FF, 0x40000000, 0xB0000002, 0x17000000, 0x37000000].all
        (fun w => (read [w]).isSome) = true :=
  ⟨witness_mainAt, by decide⟩

theorem witness_StepRunsTheDecodedCommand :
    (start [0x40000001, 0x00ABCDEF] [.main]).Moves .main ∧
      decode 8 [0x40000001, 0x00ABCDEF] 0 = .ok (.frame 0 [{ r := 0xAB, g := 0xCD, b := 0xEF }]) :=
  ⟨witness_moves _ _, by decide⟩

theorem witness_MainRestsAtTheEndOfTheStream :
    (start [] [.main]).Moves .main ∧ (start [] [.main]).stream.length ≤ (start [] [.main]).cp :=
  ⟨witness_moves _ _, by decide⟩

/-- A halted block, with an agent's turn next and with a reset next. -/
theorem witness_HaltedBlockOnlyResets :
    ∃ s : State, s.cfg.admitted = true ∧ s.halt = true ∧ (∀ d, s.nextEvent ≠ .reset d) ∧
      ({ s with sched := [.reset draws] } : State).nextEvent = .reset draws :=
  ⟨{ start [0] [.timer] with halt := true, fcause := .illegalCmd }, by decide, by decide, fun d h => by (cases h), rfl⟩

/-- One value outside its range for each clause, next to one inside it. -/
theorem witness_InadmissibleConfigurationIsRefused :
    cfg8.admitted = true ∧
      [{ cfg8 with nch := 0 }, { cfg8 with nch := 17 }, { cfg8 with brightness := 0 },
        { cfg8 with brightness := 256 }, { cfg8 with rainStep := 0 }, { cfg8 with rainStep := 256 },
        { cfg8 with nbands := 0 }, { cfg8 with stripLength := 0 }, { cfg8 with accuracy := 7 },
        { cfg8 with strips := [] }, { cfg8 with nch := 7 }].all (fun p => !p.admitted) = true ∧
      [{ cfg8 with nch := 16 }, { cfg8 with brightness := 255 }, { cfg8 with rainStep := 255 },
        { cfg8 with accuracy := 8 }].all (fun p => p.admitted) = true := by decide

/-- A step that moves `cp` past a FRAME, and one that leaves it. -/
theorem witness_CpMovesByTheCommandsLength :
    (∃ s t : State, step s = .next t ∧ (∀ d, s.nextEvent ≠ .reset d) ∧ t.cp = s.cp + 2) ∧
      ∃ s t : State, step s = .next t ∧ (∀ d, s.nextEvent ≠ .reset d) ∧ t.cp = s.cp := by
  constructor
  · obtain ⟨t, h, hp⟩ := step_of_after (start [0x40000001, 0x00ABCDEF] [.main]) (fun t => t.cp == 2) (by decide)
    exact ⟨_, t, h, fun d hd => by (cases hd), eq_of_beq hp⟩
  · obtain ⟨t, h, hp⟩ := step_of_after (busy [0xA0000000] [.main]) (fun t => t.cp == 0) (by decide)
    exact ⟨_, t, h, fun d hd => by (cases hd), eq_of_beq hp⟩

theorem witness_NothingWritesTheStream : ∃ s t : State, step s = .next t :=
  let ⟨t, h⟩ := steps_of_after (busy [0xC0000000] [.main]) (by decide)
  ⟨_, t, h⟩

/-- Each fault is entered from some state: the clauses of the two statements on faults. -/
theorem witness_FaultsArePrecise :
    ∀ c ∈ [FaultCause.illegalCmd, .unmaskedSend, .adcBusyStart, .staleTake, .waitDeadlock],
      ∃ s t : State, step s = .next t ∧ s.halt = false ∧ t.halt = true ∧ t.fcause = c := by
  have one : ∀ (s : State) (c : FaultCause), s.halt = false →
      (after 1 s).any (fun t => t.halt && decide (t.fcause = c)) = true →
      ∃ s t : State, step s = .next t ∧ s.halt = false ∧ t.halt = true ∧ t.fcause = c := by
    intro s c hs h
    obtain ⟨t, ht, hp⟩ := step_of_after s _ h
    simp only [Bool.and_eq_true, decide_eq_true_eq] at hp
    exact ⟨s, t, ht, hs, hp.1, hp.2⟩
  intro c hc
  simp only [List.mem_cons, List.not_mem_nil, or_false] at hc
  rcases hc with rfl | rfl | rfl | rfl | rfl
  · exact one (start [0xE0000000] [.main]) _ rfl (by decide)
  · exact one { start [0x10000001] [.main] with ie := true } _ rfl (by decide)
  · exact one { start [0x70000000] [.main] with adcBusy := true } _ rfl (by decide)
  · exact one (start [0x90000000] [.main]) _ rfl (by decide)
  · exact one (start [0xA0000000] [.main]) _ rfl (by decide)
theorem witness_EachFaultHasItsCause : ∃ s t : State, step s = .next t ∧ s.halt = false ∧ t.halt = true :=
  let ⟨s, t, h, hs, ht, _⟩ := witness_FaultsArePrecise .staleTake (by decide)
  ⟨s, t, h, hs, ht⟩

/-! The hypotheses of the statements on one command: a word in command position (witness_mainAt), the word's fields,
and each guard's states. -/

theorem witness_SendBitSendsOneBit :
    (0x17000001 : Word).extractLsb' 28 4 = 0x1 ∧ (0x18000000 : Word).extractLsb' 28 4 = 0x1 ∧
      (start [] []).ie = false ∧ (busy [] []).ie = true := by decide
theorem witness_SendByteSendsEightBitsMsbFirst :
    (0x230000FF : Word).extractLsb' 28 4 = 0x2 ∧ (0x20000100 : Word).extractLsb' 28 4 = 0x2 ∧
      (start [] []).ie = false ∧ (busy [] []).ie = true := by decide
theorem witness_SendPixelSendsTwentyFourBits :
    (0x37FFFFFF : Word).extractLsb' 28 4 = 0x3 ∧ (0x38000000 : Word).extractLsb' 28 4 = 0x3 ∧
      (start [] []).ie = false ∧ (busy [] []).ie = true := by decide
theorem witness_FrameSendsItsDataWordsAsOneBurst :
    (start [0x43000001, 0x00FF0000] [.main]).MainAt 0x43000001 ∧
      (start [0x43000002, 0x00FF0000] [.main]).MainAt 0x43000002 ∧
      (start [0x43000001, 0x01000000] [.main]).MainAt 0x43000001 ∧
      (start [0x43000000] [.main]).MainAt 0x43000000 ∧ (0x43000001 : Word).extractLsb' 28 4 = 0x4 :=
  ⟨⟨⟨by decide, rfl, rfl⟩, rfl⟩, ⟨⟨by decide, rfl, rfl⟩, rfl⟩, ⟨⟨by decide, rfl, rfl⟩, rfl⟩, ⟨⟨by decide, rfl, rfl⟩, rfl⟩,
    by decide⟩
/-- For the statements on the commands without an operand: a word with a reserved bit set, for each opcode. -/
theorem witness_reservedBits :
    [((0x00000001 : Word), (0x0 : BitVec 4)), (0x58000000, 0x5), (0x60800000, 0x6), (0x70000001, 0x7), (0x88000000, 0x8),
      (0x90000001, 0x9), (0xA0000001, 0xA), (0xC8000000, 0xC), (0xD0000001, 0xD)].all
        (fun p => decide (p.1.extractLsb' 28 4 = p.2) && decide (p.1.extractLsb' 0 28 ≠ 0)) = true := by decide
theorem witness_NopOnlyAdvances : (start [0] [.main]).MainAt 0x00000000 := witness_mainAt _
theorem witness_IrqOffClearsTheEnable : (start [0x50000000] [.main]).MainAt 0x50000000 := witness_mainAt _
theorem witness_IrqOnSetsTheEnable : (start [0x60000000] [.main]).MainAt 0x60000000 := witness_mainAt _
theorem witness_IsReadyReportsTheFlag : (start [0x80000000] [.main]).MainAt 0x80000000 := witness_mainAt _
theorem witness_ReadRainbowReturnsOneSnapshot : (start [0xC0000000] [.main]).MainAt 0xC0000000 := witness_mainAt _
theorem witness_ReadStatusReturnsTheFlags : (start [0xD0000000] [.main]).MainAt 0xD0000000 := witness_mainAt _
theorem witness_StrobeStartPulsesAndStartsAConversion :
    (start [0x70000000] [.main]).MainAt 0x70000000 ∧ (start [] []).adcBusy = false ∧ (busy [] []).adcBusy = true :=
  ⟨witness_mainAt _, by decide⟩
theorem witness_TakeSampleReturnsAndClears :
    (start [0x90000000] [.main]).MainAt 0x90000000 ∧ (start [] []).ready = false ∧
      ({ start [] [] with ready := true } : State).ready = true := ⟨witness_mainAt _, by decide⟩
/-- WAIT_READY: passing, the two deadlocks and the two holds. -/
theorem witness_WaitReadyPassesFaultsOrHolds :
    (start [0xA0000000] [.main]).MainAt 0xA0000000 ∧ ({ start [] [] with ready := true } : State).ready = true ∧
      (∃ s : State, s.ready = false ∧ s.ie = false ∧ s.adcBusy = true) ∧
      (∃ s : State, s.ready = false ∧ s.ie = true ∧ s.adcBusy = false ∧ s.adcPend = false) ∧
      (∃ s : State, s.ready = false ∧ s.ie = true ∧ s.adcBusy = true ∧ s.adcPend = false) ∧
      ∃ s : State, s.ready = false ∧ s.ie = true ∧ s.adcBusy = false ∧ s.adcPend = true :=
  ⟨witness_mainAt _, rfl, ⟨{ start [] [] with adcBusy := true }, by decide⟩, ⟨{ start [] [] with ie := true }, by decide⟩,
    ⟨{ start [] [] with ie := true, adcBusy := true }, by decide⟩,
    ⟨{ start [] [] with ie := true, adcPend := true }, by decide⟩⟩
theorem witness_SetModeArmsOrDisarmsTheTimer :
    (start [0xB0000002] [.main]).MainAt 0xB0000002 ∧ (0xB0000003 : Word).extractLsb' 28 4 = 0xB ∧
      (0xB0000003 : Word).extractLsb' 0 2 = 3 ∧ (0xB0000004 : Word).extractLsb' 2 26 ≠ 0 ∧
      (start [] []).mode ≠ .rainbow ∧ (busy [] []).cfg.reseedOnRepeat = true ∧
      ∃ s : State, s.mode = .rainbow ∧ s.cfg.reseedOnRepeat = false :=
  ⟨witness_mainAt _, by decide, by decide, by decide, by decide, by decide,
    ⟨{ busy [] [] with cfg := { cfg8 with reseedOnRepeat := false } }, by decide⟩⟩

/-! Statements on one step that is no reset. -/

theorem witness_WireTracesOnlyGrowByOneBurst :
    ∃ s t : State, s.Inv ∧ step s = .next t ∧ (∀ d, s.nextEvent ≠ .reset d) ∧ t.wireOf 7 = [[true]] := by
  obtain ⟨t, h, hp⟩ := step_of_after (start [0x17000001] [.main]) (fun t => t.wireOf 7 == [[true]]) (by decide)
  exact ⟨_, t, ⟨by decide, by decide, by decide, by decide, by decide, by decide, by decide⟩, h, fun d hd => by (cases hd),
    by simpa using hp⟩
theorem witness_BurstWaveIsItsSymbolsBackToBack : [true, false][1]? = some false := by decide
theorem witness_TransmissionTimeFormula : cfg8.t1h = 700 ∧ cfg8.t1l = 600 ∧ cfg8.t0h = 350 ∧ cfg8.t0l = 800 := by decide
theorem witness_OnlyMaskCommandsAndFrameWriteIe :
    ∃ s t : State, step s = .next t ∧ (∀ d, s.nextEvent ≠ .reset d) ∧ t.ie ≠ s.ie := by
  obtain ⟨t, h, hp⟩ := step_of_after (start [0x40000000] [.main]) (fun t => t.ie) (by decide)
  exact ⟨_, t, h, fun d hd => by (cases hd), by rw [hp]; decide⟩
/-- A masked handler's turn, and a masked command's. -/
theorem witness_MaskedHandlersDoNotAct :
    (∃ s t : State, s.ie = false ∧ step s = .next t ∧ (∀ d, s.nextEvent ≠ .reset d) ∧ s.nextEvent = .adcIsr ∧
        s.adcPend = true) ∧
      ∃ s t : State, s.ie = false ∧ step s = .next t ∧ (∀ d, s.nextEvent ≠ .reset d) ∧ t.ie = true := by
  constructor
  · obtain ⟨t, h⟩ := steps_of_after { start [] [.adcIsr] with adcPend := true } (by decide)
    exact ⟨_, t, rfl, h, fun d hd => by (cases hd), rfl, rfl⟩
  · obtain ⟨t, h, hp⟩ := step_of_after (start [0x60000000] [.main]) (fun t => t.ie) (by decide)
    exact ⟨_, t, rfl, h, fun d hd => by (cases hd), hp⟩
/-- Both disjuncts of the deadlock, each with a step of the converter or of the timer. -/
theorem witness_DeadlockedWaitCannotBeEnded :
    (∃ s t : State, s.ready = false ∧ s.ie = false ∧ step s = .next t ∧ s.nextEvent ≠ .main ∧
        ∀ d, s.nextEvent ≠ .reset d) ∧
      ∃ s t : State, s.ready = false ∧ s.ie = true ∧ (s.adcBusy = false ∧ s.adcPend = false) ∧ step s = .next t ∧
        s.nextEvent ≠ .main ∧ ∀ d, s.nextEvent ≠ .reset d := by
  constructor
  · obtain ⟨t, h⟩ := steps_of_after { start [] [.adc 7] with adcBusy := true } (by decide)
    exact ⟨_, t, rfl, rfl, h, by decide, fun d hd => by (cases hd)⟩
  · obtain ⟨t, h⟩ := steps_of_after { start [] [.timer] with ie := true } (by decide)
    exact ⟨_, t, rfl, rfl, ⟨rfl, rfl⟩, h, by decide, fun d hd => by (cases hd)⟩
theorem witness_ConversionCompletes :
    (start [] [.adc 0x5A]).Moves (.adc 0x5A) ∧ (busy [] [.adc 0x5A]).Moves (.adc 0x5A) ∧
      (start [] [.adc 0x5A]).adcBusy = false ∧ (busy [] [.adc 0x5A]).adcBusy = true :=
  ⟨witness_moves _ _, ⟨by decide, rfl, rfl⟩, by decide⟩
theorem witness_CompletionHandlerPublishesTheSample :
    (start [] [.adcIsr]).Moves .adcIsr ∧ (start [] [.adcIsr]).ie = false ∧ (busy [] [.adcIsr]).Moves .adcIsr ∧
      (busy [] [.adcIsr]).ie = true ∧ (busy [] [.adcIsr]).adcPend = true :=
  ⟨witness_moves _ _, rfl, ⟨by decide, rfl, rfl⟩, rfl, rfl⟩
/-- A step that sets `READY` with a new value, and a step that clears it. -/
theorem witness_MailboxHasOneProducerOneConsumer :
    (∃ s t : State, step s = .next t ∧ (∀ d, s.nextEvent ≠ .reset d) ∧ s.ready = false ∧ t.ready = true) ∧
      ∃ s t : State, step s = .next t ∧ (∀ d, s.nextEvent ≠ .reset d) ∧ s.ready = true ∧ t.ready = false := by
  constructor
  · obtain ⟨t, h, hp⟩ := step_of_after (busy [] [.adcIsr]) (fun t => t.ready) (by decide)
    exact ⟨_, t, h, fun d hd => by (cases hd), rfl, hp⟩
  · obtain ⟨t, h, hp⟩ := step_of_after { busy [0x90000000] [.main] with ready := true } (fun t => !t.ready) (by decide)
    exact ⟨_, t, h, fun d hd => by (cases hd), rfl, by simpa using hp⟩
theorem witness_OnlySetModeWritesModeAndArmed :
    ∃ s t : State, step s = .next t ∧ (∀ d, s.nextEvent ≠ .reset d) ∧ (t.mode ≠ s.mode ∨ t.armed ≠ s.armed) := by
  obtain ⟨t, h, hp⟩ := step_of_after (start [0xB0000002] [.main]) (fun t => t.armed) (by decide)
  exact ⟨_, t, h, fun d hd => by (cases hd), .inr (by rw [hp]; decide)⟩
theorem witness_TimerMarksOneTick :
    (start [] [.timer]).Moves .timer ∧ (start [] [.timer]).armed = false ∧ (busy [] [.timer]).Moves .timer ∧
      (busy [] [.timer]).tickPend = true ∧
      ∃ s : State, s.Moves .timer ∧ s.armed = true ∧ s.tickPend = false :=
  ⟨witness_moves _ _, rfl, ⟨by decide, rfl, rfl⟩, rfl,
    ⟨{ busy [] [.timer] with tickPend := false }, ⟨by decide, rfl, rfl⟩, rfl, rfl⟩⟩
theorem witness_TickHandlerMovesTheWheelOneStep :
    (start [] [.tickIsr]).Moves .tickIsr ∧ (start [] [.tickIsr]).ie = false ∧ (busy [] [.tickIsr]).Moves .tickIsr ∧
      (busy [] [.tickIsr]).ie = true ∧ (busy [] [.tickIsr]).tickPend = true :=
  ⟨witness_moves _ _, rfl, ⟨by decide, rfl, rfl⟩, rfl, rfl⟩
theorem witness_WheelReturnsToItsSeed :
    (start [] []).cfg.admitted = true ∧
      0 < ((start [] []).cfg.brightness + (start [] []).cfg.rainStep - 1) / (start [] []).cfg.rainStep := by decide
theorem witness_NoTickOutsideRainbow :
    ∃ s t : State, s.Inv ∧ s.mode ≠ .rainbow ∧ step s = .next t ∧ (∀ d, s.nextEvent ≠ .reset d) ∧ s.ie = true := by
  obtain ⟨t, h⟩ := steps_of_after { start [] [.tickIsr] with ie := true } (by decide)
  exact ⟨_, t, ⟨by decide, by decide, by decide, by decide, by decide, by decide, by decide⟩, by decide, h,
    fun d hd => by (cases hd), rfl⟩
theorem witness_HandlersCommute : (busy [] []).cfg.admitted = true ∧ (busy [] []).halt = false := by decide
theorem witness_OnlyReadingCommandsRespond :
    ∃ s t : State, step s = .next t ∧ (∀ d, s.nextEvent ≠ .reset d) ∧ t.out ≠ s.out := by
  obtain ⟨t, h, hp⟩ := step_of_after (start [0xD0000000] [.main]) (fun t => t.out == [0]) (by decide)
  exact ⟨_, t, h, fun d hd => by (cases hd), by rw [eq_of_beq hp]; decide⟩
/-- An ended run, on a tick handler's turn. -/
theorem witness_EndedRunOnlyTicks :
    ∃ s t : State, s.endedWell = true ∧ step s = .next t ∧ (∀ d, s.nextEvent ≠ .reset d) ∧ t.rainB ≠ s.rainB := by
  obtain ⟨t, h, hp⟩ := step_of_after { busy [] [.tickIsr] with adcBusy := false, adcPend := false }
    (fun t => t.rainB == 2) (by decide)
  exact ⟨_, t, by decide, h, fun d hd => by (cases hd), by rw [eq_of_beq hp]; decide⟩

/-! Statements on runs. -/

/-- A holding WAIT_READY, then an illegal word; the converter and its handler come, then MAIN twice. -/
def holding : State :=
  { start [0xA0000000, 0xE0000000] [.adc 0x5A, .adcIsr, .main, .main] with ie := true, adcBusy := true }

/-- A free agent choice is no reset. -/
theorem eventOfAgent_noReset (a : Agent) (v : Byte) (d : ResetDraws) : eventOfAgent a v ≠ .reset d := by
  cases a <;> simp [eventOfAgent]

/-- After its four steps that run has halted, and stays. -/
theorem holding_stays (n : Nat) : runFrom holding (n + 4) = runFrom holding 4 := by
  have hs : stepOrStay (runFrom holding 4) = runFrom holding 4 := by
    have h : step (runFrom holding 4) = .fault (.halted (runFrom holding 4).fcause) := by
      apply Laws.step_of_halted
      · decide
      · decide
      · have he : (runFrom holding 4).sched = [] := by decide
        intro d
        simp only [State.nextEvent, he]
        exact eventOfAgent_noReset _ _ d
    unfold stepOrStay
    rw [h]
  induction n with
  | zero => rfl
  | succ n ih =>
    have h : runFrom holding (n + 1 + 4) = stepOrStay (runFrom holding (n + 4)) := rfl
    rw [h, ih, hs]

/-- In it no agent is enabled from its fourth state on, so it is fair to every agent. -/
theorem holding_weaklyFair (a : Agent) : WeaklyFair a (runFrom holding) := by
  intro n h
  have h4 := h (n + 4) (by omega)
  rw [holding_stays] at h4
  have hh : (runFrom holding 4).halt = true := by decide
  simp [enabled, hh] at h4

theorem holding_noReset : NoReset (runFrom holding) := by
  intro n d
  by_cases h : n < 4
  · have h4 : ∀ k < 4, agentOfEvent (runFrom holding k).nextEvent ≠ none := by decide
    intro he
    exact h4 n h (by rw [he]; rfl)
  · obtain ⟨k, rfl⟩ : ∃ k, n = k + 4 := ⟨n - 4, by omega⟩
    rw [holding_stays]
    have he : (runFrom holding 4).sched = [] := by decide
    simp only [State.nextEvent, he]
    exact eventOfAgent_noReset _ _ d

theorem witness_HoldingWaitGetsItsSampleInAFairRun :
    ∃ r : Nat → State, FairRun r ∧ NoReset r ∧ (r 0).cfg.admitted = true ∧ (r 0).cfg.adcMayStall = false ∧
      (r 0).halt = false ∧ (r 0).ie = true ∧ (r 0).ready = false ∧ ((r 0).adcBusy = true ∨ (r 0).adcPend = true) ∧
      decode (r 0).cfg.nch (r 0).stream (r 0).cp = .ok .waitReady :=
  ⟨runFrom holding, ⟨Laws.isRun_runFrom _, holding_weaklyFair _, fun _ => holding_weaklyFair _⟩, holding_noReset,
    by decide, by decide, by decide, by decide, by decide, .inl (by decide), by decide⟩

/-- Two turns of a waiting MAIN around one of the timer, and no converter's. -/
theorem witness_WaitHoldsWhileTheConverterStalls :
    ∃ (r : Nat → State) (n : Nat), 0 < n ∧ IsRun r ∧ (r 0).cfg.admitted = true ∧ (r 0).halt = false ∧ (r 0).ie = true ∧
      (r 0).ready = false ∧ (r 0).adcBusy = true ∧ (r 0).adcPend = false ∧
      decode (r 0).cfg.nch (r 0).stream (r 0).cp = .ok .waitReady ∧
      ∀ m < n, (∀ v, (r m).nextEvent ≠ .adc v) ∧ ∀ d, (r m).nextEvent ≠ .reset d := by
  refine ⟨runFrom { holding with sched := [.main, .timer, .main] }, 3, by decide, Laws.isRun_runFrom _, by decide,
    by decide, by decide, by decide, by decide, by decide, by decide, ?_⟩
  have h : ∀ m < 3, agentOfEvent (runFrom { holding with sched := [.main, .timer, .main] } m).nextEvent = some .main ∨
      agentOfEvent (runFrom { holding with sched := [.main, .timer, .main] } m).nextEvent = some .timer := by decide
  intro m hm
  refine ⟨fun v he => ?_, fun d he => ?_⟩ <;>
  · have := h m hm
    rw [he] at this
    simp [agentOfEvent] at this

/-! The reference host's hypotheses. -/

theorem witness_LitCountBoundIsItsLargestSample : Config.Params.admitted cfg8 = true := by decide
theorem witness_ShineRampDoesNotDecrease :
    ∃ i j l : Nat, 3 ≤ l ∧ i + 3 < l ∧ i ≤ j ∧ j < l := ⟨0, 4, 5, by decide⟩
theorem witness_DefaultRenderHasItsTiers : ∃ (k : HostStrip) (i : Nat), i < k.pixelCount ∧ i < k.litCount :=
  ⟨{ chan := 0, pixelCount := 8, litCount := 8 }, 7, by decide⟩
theorem witness_SkipRuleDecidesTheFrame :
    (atStrip3 .default 100).phase = .strobe 100 ∧
      (atStrip3 .default 100).current < (atStrip3 .default 100).strips.length ∧
      litCountOf cfg8 100 = (atStrip3 .default 100).strip.litCount ∧
      litCountOf cfg8 224 ≠ (atStrip3 .shine 224).strip.litCount ∧ (atStrip3 .rainbow 100).mode = .rainbow := by decide
theorem witness_HostIssuesLegalCommandsOnly :
    cfg8.admitted = true ∧ (∀ k ∈ cfg8.strips, k.pixelCount ≤ 65535) ∧
      ∃ g : Rig, g.commandDone = true ∧
        Instr.wf g.block.cfg.nch (hostCommand g.block.cfg (hostAfter g.block.cfg g.host g.block.resp)) = true :=
  ⟨by decide, by decide,
    ⟨{ host := atStrip3 .default 224, block := { start [0x70000000] [] with cp := 1 } }, by decide, by decide⟩⟩
/-- A strip for each turn, in every mode; with zero samples the count is the stored one, with 224 it is not. -/
theorem witness_HostBootsOnceThenCyclesOverItsStrips :
    cfg8.admitted = true ∧ cfg8.strips[0 % cfg8.strips.length]? = some { chan := 0, pixelCount := 8 } ∧
      (hostAt cfg8 .shine (fun _ => 224) 3).strips[0 % cfg8.strips.length]? =
        some { chan := 0, pixelCount := 8, litCount := 0 } ∧
      litCountOf cfg8 224 ≠ 0 ∧ litCountOf cfg8 0 = 0 := by decide

end Sys2Proof.Tests
end

section
/-! Which configurations a step accepts (00_scope.md R8, R9). -/

namespace Sys2Proof.Laws

open Sys2Proof.Machine

/-- The rows of the R8 table that bound a number, as an admitted configuration meets them; the strips' lines
(48_host_display.md R200) and the converter's width are left out. -/
theorem ranges_of_admitted {p : Config.Params} (h : p.admitted = true) :
    (1 ≤ p.nch ∧ p.nch ≤ 16) ∧ (1 ≤ p.brightness ∧ p.brightness ≤ 255) ∧ (1 ≤ p.rainStep ∧ p.rainStep ≤ 255) ∧
      1 ≤ p.nbands ∧ (1 ≤ p.stripLength ∧ p.stripLength ≤ p.accuracy) ∧
      (1 ≤ p.strips.length ∧ p.strips.length ≤ p.nch) := by
  obtain ⟨hNch, hNch', -, hBright, hBright', hRain, hRain', hBands, hLen, hAcc, hStrips, hStrips', -⟩ :=
    of_decide_eq_true h
  exact ⟨⟨hNch, hNch'⟩, ⟨hBright, hBright'⟩, ⟨hRain, hRain'⟩, hBands, ⟨hLen, hAcc⟩, ⟨hStrips, hStrips'⟩⟩

/-- A step is refused on a configuration that is not admitted, whatever the event and the registers. -/
theorem step_of_not_admitted (s : State) (h : s.cfg.admitted = false) :
    step s = .refused .configurationNotAdmitted := by
  simp [step, stepOnce, h]

/-- Settles O16: an admitted configuration meets every range, so one outside a range is not admitted. -/
theorem inadmissibleConfigurationIsRefused : Obligations.InadmissibleConfigurationIsRefused := by
  intro s hOutside
  refine step_of_not_admitted s (Bool.eq_false_iff.mpr fun hAdmitted => ?_)
  have hRanges := ranges_of_admitted hAdmitted
  omega

end Sys2Proof.Laws
end

section
/-! What a run command does: its fault, or its effect on the registers (30_encoding.md R75, 60_exceptions.md R240). -/

namespace Sys2Proof.Laws

open Sys2Proof.Machine

/-- A burst moves its line and its trace only (40_led_encoder.md R101). -/
theorem burst_frame (ch : Nat) (bits : Burst) (s : State) :
    burst ch bits s = { s with line := (burst ch bits s).line, wire := (burst ch bits s).wire } := by
  rw [burst_eq]
  split <;> rfl

@[simp] theorem burst_cfg (ch : Nat) (bits : Burst) (s : State) : (burst ch bits s).cfg = s.cfg := by rw [burst_frame]
@[simp] theorem burst_cp (ch : Nat) (bits : Burst) (s : State) : (burst ch bits s).cp = s.cp := by rw [burst_frame]
@[simp] theorem burst_ie (ch : Nat) (bits : Burst) (s : State) : (burst ch bits s).ie = s.ie := by rw [burst_frame]
@[simp] theorem burst_mode (ch : Nat) (bits : Burst) (s : State) : (burst ch bits s).mode = s.mode := by
  rw [burst_frame]
@[simp] theorem burst_armed (ch : Nat) (bits : Burst) (s : State) : (burst ch bits s).armed = s.armed := by
  rw [burst_frame]
@[simp] theorem burst_resp (ch : Nat) (bits : Burst) (s : State) : (burst ch bits s).resp = s.resp := by
  rw [burst_frame]
@[simp] theorem burst_out (ch : Nat) (bits : Burst) (s : State) : (burst ch bits s).out = s.out := by rw [burst_frame]
@[simp] theorem burst_halt (ch : Nat) (bits : Burst) (s : State) : (burst ch bits s).halt = s.halt := by
  rw [burst_frame]

/-- The trace after a burst (40_led_encoder.md R101). -/
theorem burst_wire (ch : Nat) (bits : Burst) (s : State) :
    (burst ch bits s).wire = if bits = [] then s.wire else s.wire.modify ch (fun old => old ++ [bits]) := by
  rw [burst_eq]
  split <;> rfl

/-- What a command does to the registers when it completes, `cp` left aside. -/
def commandEffect : Instr → State → State
  | .nop, s => s
  | .sendBit ch v, s => burst ch.toNat [v] s
  | .sendByte ch byte, s => burst ch.toNat (byteBits byte) s
  | .sendPixel ch rgb, s => burst ch.toNat (pixelBits rgb) s
  | .frame ch px, s => (burst ch.toNat (frameBits px) s).setIe true
  | .irqOff, s => s.setIe false
  | .irqOn, s => s.setIe true
  | .strobeStart, s => { s with strobe := false, strobes := s.strobes + 1, adcBusy := true }
  | .isReady, s => s.respond (flagWord s.ready)
  | .takeSample, s => { s.respond (byteWord s.sample) with ready := false }
  | .waitReady, s => s
  | .setMode .rainbow, s =>
    let armedOn := { s with mode := .rainbow, armed := true }
    if s.mode ≠ .rainbow ∨ s.cfg.reseedOnRepeat = true then seed armedOn else armedOn
  | .setMode .default, s => { s with mode := .default, armed := false, tickPend := false }
  | .setMode .shine, s => { s with mode := .shine, armed := false, tickPend := false }
  | .readRainbow, s => s.respond (colourWord s.rainR s.rainG s.rainB)
  | .readStatus, s => s.respond (statusWord s)

/-- The fault a decoded command raises in a state, or none (60_exceptions.md R240). -/
def faultOf : Instr → State → FaultCause
  | .sendBit _ _, s => if s.ie then .unmaskedSend else .none
  | .sendByte _ _, s => if s.ie then .unmaskedSend else .none
  | .sendPixel _ _, s => if s.ie then .unmaskedSend else .none
  | .strobeStart, s => if s.adcBusy then .adcBusyStart else .none
  | .takeSample, s => if s.ready then .none else .staleTake
  | .waitReady, s => if !s.ready && waitIsHopeless s then .waitDeadlock else .none
  | .nop, _ => .none
  | .frame _ _, _ => .none
  | .irqOff, _ => .none
  | .irqOn, _ => .none
  | .isReady, _ => .none
  | .setMode _, _ => .none
  | .readRainbow, _ => .none
  | .readStatus, _ => .none

/-- Everything a run command can do: it faults, it is a WAIT_READY that holds, or it completes. -/
inductive Ran (i : Instr) (s : State) : State → Prop where
  | faults (cause : FaultCause) (why : faultOf i s = cause) (isFault : cause ≠ .none) : Ran i s (s.enterFault cause)
  | holds (wait : i = .waitReady) (notReady : s.ready = false) (noFault : faultOf i s = .none) : Ran i s s
  | completes (noFault : faultOf i s = .none) (noHold : i = .waitReady → s.ready = true) :
      Ran i s ((commandEffect i s).advance i.length)

/-- Completion, with the next state given by an equation. -/
theorem Ran.of_eq_completed {i : Instr} {s t : State} (ht : t = (commandEffect i s).advance i.length)
    (noFault : faultOf i s = .none) (noHold : i = .waitReady → s.ready = true) : Ran i s t :=
  ht ▸ .completes noFault noHold

/-- A primitive send faults while `IE = 1` and completes while it is 0. -/
theorem ran_of_primitiveSend {i : Instr} {ch : BitVec 4} {bits : Burst} {s t : State}
    (h : primitiveSend ch bits s = .next t) (hfault : faultOf i s = if s.ie then .unmaskedSend else .none)
    (heffect : commandEffect i s = burst ch.toNat bits s) (hlength : i.length = 1) (hwait : i ≠ .waitReady) :
    Ran i s t := by
  obtain ⟨hie, rfl⟩ | ⟨hie, ht⟩ := (primitiveSend_next ch bits s t).mp h
  · exact .faults .unmaskedSend (by simp [hfault, hie]) nofun
  · exact .of_eq_completed (by rw [ht, heffect, hlength]) (by simp [hfault, hie]) (fun hw => absurd hw hwait)

/-- FRAME masks only while it sends, so its effect is its burst and `IE = 1` (40_led_encoder.md R105). -/
theorem execFrame_completes (ch : BitVec 4) (px : List Rgb) (s : State) :
    execFrame ch px s = .next ((commandEffect (.frame ch px) s).advance (1 + px.length)) := by
  simp only [execFrame, commandEffect, burst_eq]
  split <;> rfl

/-- SET_MODE never faults (43_animation.md R150). -/
theorem execSetMode_completes (m : Mode) (s : State) :
    execSetMode m s = .next ((commandEffect (.setMode m) s).advance 1) := by
  cases m with
  | rainbow =>
    simp only [execSetMode, commandEffect]
    split <;> rfl
  | default => rfl
  | shine => rfl

/-- A command that is run faults, holds or completes, as its guards say. -/
theorem ran_of_exec {i : Instr} {s t : State} (h : exec i s = .next t) : Ran i s t := by
  cases i with
  | sendBit ch v => exact ran_of_primitiveSend h rfl rfl rfl nofun
  | sendByte ch byte => exact ran_of_primitiveSend h rfl rfl rfl nofun
  | sendPixel ch rgb => exact ran_of_primitiveSend h rfl rfl rfl nofun
  | strobeStart =>
    obtain ⟨hbusy, rfl⟩ | ⟨hbusy, ht⟩ := (execStrobeStart_next s t).mp h
    · exact .faults .adcBusyStart (by simp [faultOf, hbusy]) nofun
    · exact .of_eq_completed (by rw [ht]; rfl) (by simp [faultOf, hbusy]) nofun
  | takeSample =>
    obtain ⟨hready, rfl⟩ | ⟨hready, ht⟩ := (execTakeSample_next s t).mp h
    · exact .faults .staleTake (by simp [faultOf, hready]) nofun
    · exact .of_eq_completed (by rw [ht]; rfl) (by simp [faultOf, hready]) nofun
  | waitReady =>
    obtain ⟨hready, ht⟩ | ⟨hready, hhope, rfl⟩ | ⟨hready, hhope, rfl⟩ := (execWaitReady_next s t).mp h
    · exact .of_eq_completed (by rw [ht]; rfl) (by simp [faultOf, hready]) (fun _ => hready)
    · exact .faults .waitDeadlock (by simp [faultOf, hready, hhope]) nofun
    · exact .holds rfl hready (by simp [faultOf, hhope])
  | frame ch px => cases (execFrame_completes ch px s).symm.trans h; exact .completes rfl nofun
  | setMode m => cases (execSetMode_completes m s).symm.trans h; exact .completes rfl nofun
  | nop => cases h; exact .completes rfl nofun
  | irqOff => cases h; exact .completes rfl nofun
  | irqOn => cases h; exact .completes rfl nofun
  | isReady => cases h; exact .completes rfl nofun
  | readRainbow => cases h; exact .completes rfl nofun
  | readStatus => cases h; exact .completes rfl nofun

end Sys2Proof.Laws
end

section
/-! Which registers a command's effect writes, and that it keeps the invariants of 10_state.md R39. -/

namespace Sys2Proof.Laws

open Sys2Proof.Machine

@[simp] theorem commandEffect_cfg (i : Instr) (s : State) : (commandEffect i s).cfg = s.cfg := by
  cases i with
  | setMode m => cases m <;> simp [commandEffect, apply_ite State.cfg]
  | _ => simp [commandEffect]

@[simp] theorem commandEffect_cp (i : Instr) (s : State) : (commandEffect i s).cp = s.cp := by
  cases i with
  | setMode m => cases m <;> simp [commandEffect, apply_ite State.cp]
  | _ => simp [commandEffect]

@[simp] theorem commandEffect_halt (i : Instr) (s : State) : (commandEffect i s).halt = s.halt := by
  cases i with
  | setMode m => cases m <;> simp [commandEffect, apply_ite State.halt]
  | _ => simp [commandEffect]

/-- The commands that write `IE` (10_state.md R22). -/
theorem commandEffect_ie (i : Instr) (s : State) :
    (commandEffect i s).ie = s.ie ∨ i = .irqOff ∨ i = .irqOn ∨ ∃ ch px, i = .frame ch px := by
  cases i with
  | setMode m => cases m <;> simp [commandEffect, apply_ite State.ie]
  | _ => simp [commandEffect]

/-- The command that writes `MODE` and `ARMED` (10_state.md R23, R24). -/
theorem commandEffect_mode_armed (i : Instr) (s : State) :
    ((commandEffect i s).mode = s.mode ∧ (commandEffect i s).armed = s.armed) ∨
      ∃ m, i = .setMode m ∧ (commandEffect i s).mode = m ∧ ((commandEffect i s).armed = true ↔ m = .rainbow) := by
  cases i with
  | setMode m => cases m <;> simp [commandEffect, apply_ite State.mode, apply_ite State.armed]
  | _ => simp [commandEffect]

/-- The commands that answer (10_state.md R33). -/
theorem commandEffect_out (i : Instr) (s : State) :
    ((commandEffect i s).resp = s.resp ∧ (commandEffect i s).out = s.out) ∨
      ((commandEffect i s).out = s.out ++ [(commandEffect i s).resp] ∧
        (i = .isReady ∨ i = .takeSample ∨ i = .readRainbow ∨ i = .readStatus)) := by
  cases i with
  | setMode m => cases m <;> simp [commandEffect, apply_ite State.resp, apply_ite State.out]
  | _ => simp [commandEffect]

/-- A command leaves the traces or makes one of them longer by one burst (10_state.md R35). -/
theorem commandEffect_wire (i : Instr) (s : State) :
    (commandEffect i s).wire = s.wire ∨
      ∃ ch bits, bits ≠ [] ∧ (commandEffect i s).wire = s.wire.modify ch (fun old => old ++ [bits]) := by
  have hburst (ch : Nat) (bits : Burst) : (burst ch bits s).wire = s.wire ∨
      ∃ ch' bits', bits' ≠ [] ∧ (burst ch bits s).wire = s.wire.modify ch' (fun old => old ++ [bits']) := by
    rw [burst_wire]
    split
    · exact .inl rfl
    · exact .inr ⟨ch, bits, ‹_›, rfl⟩
  cases i with
  | sendBit ch v => exact hburst _ _
  | sendByte ch byte => exact hburst _ _
  | sendPixel ch rgb => exact hburst _ _
  | frame ch px => exact hburst _ _
  | setMode m => cases m <;> simp [commandEffect, apply_ite State.wire]
  | _ => exact .inl rfl

/-- A burst leaves its line low, so the invariants stay (10_state.md R32). -/
theorem burst_inv {s : State} (h : s.Inv) (ch : Nat) (bits : Burst) : (burst ch bits s).Inv := by
  rw [burst_eq]
  split
  · exact h
  · refine { h with lines_low := fun level hl => ?_, line_count := ?_, wire_count := ?_ }
    · obtain hl | rfl := List.mem_or_eq_of_mem_set hl
      · exact h.lines_low level hl
      · rfl
    · simpa using h.line_count
    · simpa using h.wire_count

/-- Every command's effect keeps the invariants: SET_MODE writes `MODE` and `ARMED` together, and a send leaves its line
low (10_state.md R39). -/
theorem commandEffect_inv {s : State} (h : s.Inv) (i : Instr) : (commandEffect i s).Inv := by
  cases i with
  | nop => exact h
  | waitReady => exact h
  | sendBit ch v => exact burst_inv h _ _
  | sendByte ch byte => exact burst_inv h _ _
  | sendPixel ch rgb => exact burst_inv h _ _
  | frame ch px => exact { burst_inv h ch.toNat (frameBits px) with }
  | setMode m =>
    cases m with
    | rainbow =>
      have hArmed : ({ s with mode := .rainbow, armed := true } : State).Inv :=
        { h with armed_iff := by simp, tick_armed := by simp }
      unfold commandEffect
      dsimp only
      split
      · exact { hArmed with }
      · exact hArmed
    | default => exact { h with armed_iff := by simp [commandEffect], tick_armed := by simp [commandEffect] }
    | shine => exact { h with armed_iff := by simp [commandEffect], tick_armed := by simp [commandEffect] }
  | strobeStart => exact { h with strobe_low := rfl }
  | _ => exact { h with }

/-- Any configuration with the reset value of every register meets the invariants (10_state.md R40). -/
theorem atReset_inv (cfg : Config.Params) (stream : List Word) (d : ResetDraws) :
    (State.atReset cfg stream d).Inv where
  armed_iff := by simp [State.atReset]
  tick_armed := by simp [State.atReset]
  lines_low := by simp [State.atReset]
  strobe_low := rfl
  halt_iff := by simp [State.atReset]
  line_count := by simp [State.atReset]
  wire_count := by simp [State.atReset]

theorem resetBy_inv (s : State) (d : ResetDraws) : (s.resetBy d).Inv := { atReset_inv s.cfg s.stream d with }

/-- Taking the event moves none of the registers the invariants speak of. -/
theorem takeEvent_inv {s : State} (h : s.Inv) : s.takeEvent.Inv := by
  unfold State.takeEvent
  split <;> exact { h with }

/-- Fault entry writes `HALT` and `FCAUSE` together (60_exceptions.md R242). -/
theorem enterFault_inv {s : State} (h : s.Inv) {cause : FaultCause} (hc : cause ≠ .none) : (s.enterFault cause).Inv :=
  { h with halt_iff := by simp [State.enterFault, hc] }

/-- Under the invariants every line reads low, also one the block does not have. -/
theorem lineOf_eq_false {s : State} (h : s.Inv) (ch : Nat) : s.lineOf ch = false := by
  unfold State.lineOf
  rw [List.getD_eq_getElem?_getD]
  cases hl : s.line[ch]? with
  | none => rfl
  | some level => exact h.lines_low level (List.mem_of_getElem? hl)

end Sys2Proof.Laws
end

section
/-! The colour wheel keeps its invariant (10_state.md R39, second list; 43_animation.md R152, R155). -/

namespace Sys2Proof.Laws

open Sys2Proof.Machine

/-- The bound on each channel follows from the sum and the third channel. -/
theorem wheelInv_of_sum_third {s : State}
    (hsum : (s.rain s.rainPh).toNat + (s.rain s.rainPh.next).toNat = s.cfg.brightness)
    (hthird : (s.rain s.rainPh.next.next).toNat = 0) : s.WheelInv where
  bounded := by
    intro c
    have hc : c = s.rainPh ∨ c = s.rainPh.next ∨ c = s.rainPh.next.next := by
      cases c <;> cases s.rainPh <;> simp [Colour.next]
    obtain rfl | rfl | rfl := hc
    · omega
    · omega
    · omega
  sum := hsum
  third := BitVec.eq_of_toNat_eq hthird

/-- The seed is a state of the wheel (43_animation.md R152). -/
theorem seed_wheelInv (s : State) (hB : s.cfg.brightness ≤ 255) : (seed s).WheelInv := by
  have hmod : s.cfg.brightness % 256 = s.cfg.brightness := Nat.mod_eq_of_lt (by omega)
  exact wheelInv_of_sum_third (by simp [State.rain, Colour.next, hmod]) rfl

theorem next_next_next (c : Colour) : c.next.next.next = c := by cases c <;> rfl

/-- One step of the wheel moves as much from the decreasing to the increasing channel; at 0 the roles move on
(43_animation.md R155). -/
theorem adv_wheelInv {s : State} (h : s.WheelInv) (hB : s.cfg.brightness ≤ 255) : (adv s).WheelInv := by
  obtain ⟨-, hsum, hthird⟩ := h
  have hdec_ne := next_ne s.rainPh
  have hinc_ne := next_ne s.rainPh.next
  have hthird_ne := next_ne s.rainPh.next.next
  rw [next_next_next] at hthird_ne
  have hcfg : (adv s).cfg = s.cfg := by rw [adv_frame]
  have hdec : ((adv s).rain s.rainPh).toNat = (s.rain s.rainPh).toNat - min s.cfg.rainStep (s.rain s.rainPh).toNat := by
    rw [rain_adv, if_neg hdec_ne.symm, if_pos rfl, BitVec.toNat_ofNat, wheelDec]
    omega
  have hinc : ((adv s).rain s.rainPh.next).toNat =
      (s.rain s.rainPh.next).toNat + min s.cfg.rainStep (s.rain s.rainPh).toNat := by
    rw [rain_adv, if_pos rfl, BitVec.toNat_ofNat, wheelInc]
    split <;> omega
  have hrest : ((adv s).rain s.rainPh.next.next).toNat = 0 := by
    rw [rain_adv, if_neg hinc_ne, if_neg hthird_ne.symm, hthird]
    rfl
  have hphase := rainPh_adv s
  rw [wheelDec] at hphase
  split at hphase
  · next hzero =>
    refine wheelInv_of_sum_third ?_ ?_
    · rw [hphase, hcfg, hinc, hrest]
      omega
    · rw [hphase, next_next_next, hdec, hzero]
  · refine wheelInv_of_sum_third ?_ ?_
    · rw [hphase, hcfg, hdec, hinc]
      omega
    · rw [hphase, hrest]

theorem burst_wheelInv {s : State} (h : s.WheelInv) (ch : Nat) (bits : Burst) : (burst ch bits s).WheelInv := by
  rw [burst_frame]
  exact { h with }

theorem takeEvent_wheelInv {s : State} (h : s.WheelInv) : s.takeEvent.WheelInv := by
  unfold State.takeEvent
  split <;> exact { h with }

/-- SET_MODE 2 leaves the wheel or seeds it; no other command writes it (43_animation.md R150, R152). -/
theorem commandEffect_wheelInv {s : State} (h : s.WheelInv) (hB : s.cfg.brightness ≤ 255) (i : Instr) :
    (commandEffect i s).WheelInv := by
  cases i with
  | nop => exact h
  | waitReady => exact h
  | sendBit ch v => exact burst_wheelInv h _ _
  | sendByte ch byte => exact burst_wheelInv h _ _
  | sendPixel ch rgb => exact burst_wheelInv h _ _
  | frame ch px => exact { burst_wheelInv h ch.toNat (frameBits px) with }
  | setMode m =>
    cases m with
    | rainbow =>
      unfold commandEffect
      dsimp only
      split
      · exact seed_wheelInv _ hB
      · exact { h with }
    | default => exact { h with }
    | shine => exact { h with }
  | _ => exact { h with }

end Sys2Proof.Laws
end

section
/-! A decoded command lies within the stream (30_encoding.md R76, R78, R79). -/

namespace Sys2Proof.Laws

open Sys2Proof.Machine

/-- The colours read are as many as were asked for, one from each data word (30_encoding.md R79). -/
theorem framePixels_length {n : Nat} {ws : List Word} {px : List Rgb} (h : framePixels n ws = .ok px) :
    px.length = n ∧ n ≤ ws.length := by
  induction n generalizing ws px with
  | zero => cases h; simp
  | succ n ih =>
    cases ws with
    | nil => cases h
    | cons w ws =>
      rw [framePixels] at h
      split at h
      · split at h
        · cases h
          obtain ⟨hlength, hle⟩ := ih ‹_›
          simp [hlength, hle]
        · cases h
      · cases h

/-- No other decoder answers a FRAME (30_encoding.md R79). -/
theorem decodeFrame_of_decodeWords {nch : Nat} {w : Word} {rest : List Word} {ch : BitVec 4} {px : List Rgb}
    (h : decodeWords nch w rest = .ok (.frame ch px)) : decodeFrame nch w rest = .ok (.frame ch px) := by
  unfold decodeWords at h
  split at h
  case h_5 => exact h -- opcode 4, FRAME's
  case h_12 => -- opcode 0xB, SET_MODE's
    rw [decodeSetMode] at h
    split_ifs at h
    split at h <;> cases h
  case h_15 => cases h -- the reserved opcodes
  all_goals
    simp only [decodeZ, decodeSendBit, decodeSendByte, decodeSendPixel] at h
    split_ifs at h
    cases h

/-- A FRAME's pixels are as many as its header counts, and their words are there (30_encoding.md R76). -/
theorem decodeFrame_length {nch : Nat} {w : Word} {rest : List Word} {ch : BitVec 4} {px : List Rgb}
    (h : decodeFrame nch w rest = .ok (.frame ch px)) : px.length = countField w ∧ countField w ≤ rest.length := by
  unfold decodeFrame at h
  split_ifs at h
  split at h
  · cases h
    exact framePixels_length ‹_›
  · cases h

/-- A decoded command's words are all there (30_encoding.md R76, R78). -/
theorem decodeWords_length_le {nch : Nat} {w : Word} {rest : List Word} {i : Instr}
    (h : decodeWords nch w rest = .ok i) : i.length ≤ 1 + rest.length := by
  cases i with
  | frame ch px =>
    obtain ⟨hcount, hle⟩ := decodeFrame_length (decodeFrame_of_decodeWords h)
    rw [Instr.length]
    omega
  | _ => exact Nat.le_add_right 1 _

/-- No command is empty (30_encoding.md R78). -/
theorem instr_length_pos (i : Instr) : 0 < i.length := by
  cases i with
  | frame ch px => simp [Instr.length]
  | _ => exact Nat.one_pos

/-- A decoded command lies within the stream (30_encoding.md R76, R78). -/
theorem decode_within {nch : Nat} {stream : List Word} {cp : Nat} {i : Instr} (h : decode nch stream cp = .ok i) :
    cp + i.length ≤ stream.length := by
  unfold decode at h
  split at h
  · cases h
  · next w rest hdrop =>
    have hlength := congrArg List.length hdrop
    have hle := decodeWords_length_le h
    rw [List.length_drop, List.length_cons] at hlength
    omega

end Sys2Proof.Laws
end

section
/-! Everything a step that is no reset can do. -/

namespace Sys2Proof.Laws

open Sys2Proof.Machine

/-- Everything a turn can do in which no command completes and no fault is entered, in a state with the event `e` taken:
nothing, or the guarded step of an agent other than MAIN (10_state.md R38). -/
inductive SideMove (s : State) : Event → State → Prop where
  | rests (e : Event) : SideMove s e s
  | converts (v : Byte) (busy : s.adcBusy = true) : SideMove s (.adc v) (adcComplete v s)
  | publishes (enabled : s.ie = true) (pending : s.adcPend = true) : SideMove s .adcIsr (adcHandler s)
  | ticks (armed : s.armed = true) (idle : s.tickPend = false) : SideMove s .timer (timerTick s)
  | turnsWheel (enabled : s.ie = true) (pending : s.tickPend = true) : SideMove s .tickIsr (tickHandler s)

/-- Everything a step that is no reset can do. -/
inductive Moved (s : State) : State → Prop where
  | completes (i : Instr) (main : s.nextEvent = .main) (decoded : decode s.cfg.nch s.stream s.cp = .ok i)
      (noFault : faultOf i s.takeEvent = .none) (noHold : i = .waitReady → s.ready = true) :
      Moved s ((commandEffect i s.takeEvent).advance i.length)
  | faults (cause : FaultCause) (main : s.nextEvent = .main) (isFault : cause ≠ .none)
      (why : ((∃ e, decode s.cfg.nch s.stream s.cp = .error e) ∧ cause = .illegalCmd) ∨
        ∃ i, decode s.cfg.nch s.stream s.cp = .ok i ∧ cause = faultOf i s.takeEvent) :
      Moved s (s.takeEvent.enterFault cause)
  | side {t : State} (move : SideMove s.takeEvent s.nextEvent t) : Moved s t

/-- MAIN's turn is one of the moves (30_encoding.md R79, 60_exceptions.md R241). -/
theorem moved_of_mainTurn {s t : State} (he : s.nextEvent = .main) (h : mainTurn s.takeEvent = .next t) :
    Moved s t := by
  obtain ⟨-, hturn⟩ | ⟨-, i, hf, hturn⟩ | ⟨-, e, hf, hturn⟩ := mainTurn_cases s.takeEvent <;>
    rw [hturn] at h
  · cases h
    exact .side (.rests _)
  · rw [fetch_takeEvent] at hf
    cases ran_of_exec h with
    | faults cause why isFault => exact .faults cause he isFault (.inr ⟨i, hf, why.symm⟩)
    | holds => exact .side (.rests _)
    | completes noFault noHold => exact .completes i he hf noFault (by simpa using noHold)
  · cases h
    rw [fetch_takeEvent] at hf
    exact .faults .illegalCmd he nofun (.inl ⟨⟨e, hf⟩, rfl⟩)

theorem sideMove_adcTurn (v : Byte) (s : State) : SideMove s (.adc v) (adcTurn v s) := by
  unfold adcTurn adcReady
  split
  · exact .converts v ‹_›
  · exact .rests _

theorem sideMove_adcIsrTurn (s : State) : SideMove s .adcIsr (adcIsrTurn s) := by
  unfold adcIsrTurn adcIsrReady
  split
  · obtain ⟨hie, hpend⟩ := Bool.and_eq_true_iff.mp ‹_›
    exact .publishes hie hpend
  · exact .rests _

theorem sideMove_timerTurn (s : State) : SideMove s .timer (timerTurn s) := by
  unfold timerTurn timerReady
  split
  · obtain ⟨harmed, hidle⟩ := Bool.and_eq_true_iff.mp ‹_›
    exact .ticks harmed (by simpa using hidle)
  · exact .rests _

theorem sideMove_tickIsrTurn (s : State) : SideMove s .tickIsr (tickIsrTurn s) := by
  unfold tickIsrTurn tickIsrReady
  split
  · obtain ⟨hie, hpend⟩ := Bool.and_eq_true_iff.mp ‹_›
    exact .turnsWheel hie hpend
  · exact .rests _

/-- The turns of the agents other than MAIN (10_state.md R38). -/
theorem sideMove_of_turn {e : Event} {s t : State} (h : turn e s = .next t) (hmain : e ≠ .main)
    (hn : ∀ d, e ≠ .reset d) : SideMove s e t := by
  cases e with
  | main => exact absurd rfl hmain
  | reset d => exact absurd rfl (hn d)
  | adc v => cases h; exact sideMove_adcTurn v s
  | adcIsr => cases h; exact sideMove_adcIsrTurn s
  | timer => cases h; exact sideMove_timerTurn s
  | tickIsr => cases h; exact sideMove_tickIsrTurn s

/-- A step that is no reset is a move of a running block on an admitted configuration. -/
theorem moved_of_step {s t : State} (h : step s = .next t) (hn : ∀ d, s.nextEvent ≠ .reset d) :
    s.cfg.admitted = true ∧ s.halt = false ∧ Moved s t := by
  obtain ⟨hadm, ⟨d, hd, -⟩ | ⟨hrun, -, hturn⟩⟩ := step_next s t h
  · exact absurd hd (hn d)
  refine ⟨hadm, hrun, ?_⟩
  by_cases hmain : s.nextEvent = .main
  · rw [hmain] at hturn
    exact moved_of_mainTurn hmain hturn
  · exact .side (sideMove_of_turn hturn hmain hn)

/-- The registers that only MAIN or a reset writes are as they were (10_state.md R21 to R24, R32 to R35). -/
structure KeepsMainRegisters (s t : State) : Prop where
  cp : t.cp = s.cp
  ie : t.ie = s.ie
  mode : t.mode = s.mode
  armed : t.armed = s.armed
  resp : t.resp = s.resp
  out : t.out = s.out
  wire : t.wire = s.wire

/-- The tick handler clears the pending tick and moves the rainbow registers only (43_animation.md R154). -/
theorem tickHandler_frame (s : State) :
    tickHandler s = { s with
      tickPend := false, rainR := (tickHandler s).rainR, rainG := (tickHandler s).rainG,
      rainB := (tickHandler s).rainB, rainPh := (tickHandler s).rainPh } :=
  adv_frame { s with tickPend := false }

/-- No agent other than MAIN writes them. -/
theorem SideMove.keepsMainRegisters {s t : State} {e : Event} (move : SideMove s e t) : KeepsMainRegisters s t := by
  cases move with
  | turnsWheel => rw [tickHandler_frame]; constructor <;> rfl
  | _ => constructor <;> rfl

/-- Nor does taking the event before the move. -/
theorem keepsMainRegisters_of_sideMove {s t : State} {e : Event} (move : SideMove s.takeEvent e t) :
    KeepsMainRegisters s t := by
  obtain ⟨hcp, hie, hmode, harmed, hresp, hout, hwire⟩ := move.keepsMainRegisters
  exact ⟨by simpa using hcp, by simpa using hie, by simpa using hmode, by simpa using harmed, by simpa using hresp,
    by simpa using hout, by simpa using hwire⟩

theorem tickHandler_inv {s : State} (h : s.Inv) : (tickHandler s).Inv := by
  rw [tickHandler_frame]
  exact { h with tick_armed := nofun }

theorem tickHandler_wheelInv {s : State} (h : s.WheelInv) (hB : s.cfg.brightness ≤ 255) : (tickHandler s).WheelInv :=
  adv_wheelInv (s := { s with tickPend := false }) { h with } hB

/-- Of the agents other than MAIN only the tick handler writes the wheel (43_animation.md R154). -/
theorem SideMove.wheelInv {s t : State} {e : Event} (hm : SideMove s e t) (h : s.WheelInv)
    (hB : s.cfg.brightness ≤ 255) : t.WheelInv := by
  cases hm with
  | turnsWheel => exact tickHandler_wheelInv h hB
  | _ => exact { h with }

/-- The timer marks a tick only while armed; no other agent writes a register the invariants tie (10_state.md R39). -/
theorem SideMove.inv {s t : State} {e : Event} (hm : SideMove s e t) (h : s.Inv) : t.Inv := by
  cases hm with
  | rests => exact h
  | converts v busy => exact { h with }
  | publishes => exact { h with }
  | ticks armed idle => exact { h with tick_armed := fun _ => armed }
  | turnsWheel => exact tickHandler_inv h

/-- Every step keeps the invariants: a reset gives them whatever stood before, and a completed command, a fault entry
and each agent's move keep them (10_state.md R39). -/
theorem step_inv {s t : State} (h : s.Inv) (hstep : step s = .next t) : t.Inv := by
  by_cases hr : ∃ d, s.nextEvent = .reset d
  · obtain ⟨d, hd⟩ := hr
    obtain ⟨hadm, -⟩ := step_next s t hstep
    cases (step_of_reset s d hadm hd).symm.trans hstep
    exact resetBy_inv _ d
  · obtain ⟨-, -, hmoved⟩ := moved_of_step hstep (not_exists.mp hr)
    cases hmoved with
    | completes i => exact { commandEffect_inv (takeEvent_inv h) i with }
    | faults cause _ isFault => exact enterFault_inv (takeEvent_inv h) isFault
    | side move => exact move.inv (takeEvent_inv h)

end Sys2Proof.Laws
end

section
/-! The statements of 10_state.md, each read off from the moves of a step. -/

namespace Sys2Proof.Laws

open Sys2Proof.Machine

/-- Settles O4: resets, completed commands, fault entries and the agents' moves all keep the invariants. -/
theorem everyStepKeepsTheInvariants : Obligations.EveryStepKeepsTheInvariants :=
  fun _ _ h hstep => step_inv h hstep

/-- Settles O5: only the tick handler and SET_MODE 2 write the wheel, and each leaves it at a state of the wheel. -/
theorem everyStepKeepsTheWheelInvariant : Obligations.EveryStepKeepsTheWheelInvariant := by
  intro s t h hn hstep
  obtain ⟨hadm, -, hmoved⟩ := moved_of_step hstep hn
  obtain ⟨-, ⟨-, hB⟩, -⟩ := ranges_of_admitted hadm
  have h' := takeEvent_wheelInv h
  have hB' : s.takeEvent.cfg.brightness ≤ 255 := by simpa using hB
  cases hmoved with
  | completes i => exact { commandEffect_wheelInv h' hB' i with }
  | faults => exact { h' with }
  | side move => exact move.wheelInv h' hB'

/-- Settles O17: only a completed command moves `cp`, and a decoded command lies within the stream. -/
theorem cpMovesByTheCommandsLength : Obligations.CpMovesByTheCommandsLength := by
  intro s t hstep hn
  obtain ⟨-, hrun, hmoved⟩ := moved_of_step hstep hn
  cases hmoved with
  | completes i main decoded =>
    exact .inr ⟨main, by simpa using hrun, i, decoded, by simp, by simpa using decode_within decoded⟩
  | faults => exact .inl (by simp)
  | side move => exact .inl (keepsMainRegisters_of_sideMove move).cp

/-- Settles O26: a command leaves the traces or appends one burst to one of them, and no other move writes a trace; the
lines are low by the invariants of the state after the step. -/
theorem wireTracesOnlyGrowByOneBurst : Obligations.WireTracesOnlyGrowByOneBurst := by
  intro s t h hstep hn
  refine ⟨lineOf_eq_false (step_inv h hstep), ?_⟩
  obtain ⟨-, -, hmoved⟩ := moved_of_step hstep hn
  cases hmoved with
  | completes i main =>
    obtain hw | ⟨ch, bits, hbits, hw⟩ := commandEffect_wire i s.takeEvent
    · exact .inl fun ch => by simp [State.wireOf, hw]
    · by_cases hch : ch < s.wire.length
      · refine .inr ⟨main, ch, bits, by rwa [← h.wire_count], hbits, ?_, fun c hc => ?_⟩
        · simpa [State.wireOf, hw] using wireOf_modify_same s ch bits hch
        · simpa [State.wireOf, hw] using wireOf_modify_other s ch c bits hc
      · exact .inl fun c => by simp [State.wireOf, hw, List.modify_eq_self (Nat.le_of_not_lt hch)]
  | faults => exact .inl fun ch => by simp [State.wireOf]
  | side move =>
    exact .inl fun ch => by rw [State.wireOf, (keepsMainRegisters_of_sideMove move).wire, State.wireOf]

/-- Settles O31: of the moves of a step only a completed command writes `IE`, and only three commands do. -/
theorem onlyMaskCommandsAndFrameWriteIe : Obligations.OnlyMaskCommandsAndFrameWriteIe := by
  intro s t hstep hn hne
  obtain ⟨-, -, hmoved⟩ := moved_of_step hstep hn
  cases hmoved with
  | completes i main decoded =>
    refine ⟨main, ?_⟩
    obtain hie | rfl | rfl | ⟨ch, px, rfl⟩ := commandEffect_ie i s.takeEvent
    · exact absurd (by simp [hie]) hne
    · exact .inl decoded
    · exact .inr (.inl decoded)
    · exact .inr (.inr ⟨ch, px, decoded⟩)
  | faults => exact absurd (by simp) hne
  | side move => exact absurd (keepsMainRegisters_of_sideMove move).ie hne

/-- Settles O45: of the moves of a step only a completed SET_MODE writes `MODE` or `ARMED`. -/
theorem onlySetModeWritesModeAndArmed : Obligations.OnlySetModeWritesModeAndArmed := by
  intro s t hstep hn hne
  obtain ⟨-, -, hmoved⟩ := moved_of_step hstep hn
  cases hmoved with
  | completes i main decoded =>
    obtain ⟨hmode, harmed⟩ | ⟨m, rfl, hmode, harmed⟩ := commandEffect_mode_armed i s.takeEvent
    · simp [hmode, harmed] at hne
    · exact ⟨main, m, decoded, hmode, harmed⟩
  | faults => simp at hne
  | side move =>
    obtain ⟨_, _, hmode, harmed, _⟩ := keepsMainRegisters_of_sideMove move
    simp [hmode, harmed] at hne

/-- Settles O53: of the moves of a step only a completed reading command writes `RESP` and `OUT`. -/
theorem onlyReadingCommandsRespond : Obligations.OnlyReadingCommandsRespond := by
  intro s t hstep hn
  obtain ⟨-, -, hmoved⟩ := moved_of_step hstep hn
  cases hmoved with
  | completes i main decoded =>
    obtain ⟨hresp, hout⟩ | ⟨hout, hi⟩ := commandEffect_out i s.takeEvent
    · exact .inl (by simp [hresp, hout])
    · refine .inr ⟨by simp [hout], main, ?_⟩
      obtain rfl | rfl | rfl | rfl := hi <;> simp [decoded]
  | faults => exact .inl (by simp)
  | side move =>
    have hkept := keepsMainRegisters_of_sideMove move
    exact .inl ⟨hkept.resp, hkept.out⟩

/-- Settles O1: the reset's state, register by register. -/
theorem resetPutsEveryRegisterToItsTableValue : Obligations.ResetPutsEveryRegisterToItsTableValue := by
  intro s d hadm he
  rw [step_of_reset s d hadm he]
  simp [State.resetBy, State.atReset]

/-- Settles O3: `State.reset` is a reset state, and every reset state meets them. -/
theorem resetStateMeetsTheInvariants : Obligations.ResetStateMeetsTheInvariants :=
  atReset_inv _ _ _

/-- Settles O13: a word that decodes is there, so MAIN's turn runs it. -/
theorem stepRunsTheDecodedCommand : Obligations.StepRunsTheDecodedCommand := by
  intro s i hm hdec
  rw [step_of_moves s .main hm]
  have hfetch : fetch s.takeEvent = .ok i := by rw [fetch_takeEvent]; exact hdec
  have hlt : s.cp < s.stream.length := by
    have := decode_within hdec
    have := instr_length_pos i
    omega
  simp [turn, mainTurn, hasCommand, hfetch, hlt]

/-- Settles O14: with no word at `cp` MAIN's turn is the case in which it is not enabled. -/
theorem mainRestsAtTheEndOfTheStream : Obligations.MainRestsAtTheEndOfTheStream := by
  intro s hm hend
  rw [step_of_moves s .main hm]
  obtain ⟨-, hrest⟩ | ⟨hlt, -⟩ | ⟨hlt, -⟩ := mainTurn_cases s.takeEvent
  · exact hrest
  all_goals
    rw [takeEvent_cp, takeEvent_stream] at hlt
    omega

/-- Settles O15: a halted block's step is the fault outcome, and a reset's state has the fault registers cleared. -/
theorem haltedBlockOnlyResets : Obligations.HaltedBlockOnlyResets := by
  intro s hadm hhalt
  refine ⟨step_of_halted s hadm hhalt, fun d hd => ?_⟩
  exact ⟨_, step_of_reset s d hadm hd, rfl, rfl, rfl, rfl⟩

end Sys2Proof.Laws
end

section
/-! The command stream and the mailbox (20_memory.md R63, R65): which moves of a step write them. -/

namespace Sys2Proof.Laws

open Sys2Proof.Machine

@[simp] theorem burst_stream (ch : Nat) (bits : Burst) (s : State) : (burst ch bits s).stream = s.stream := by
  rw [burst_frame]
@[simp] theorem burst_sample (ch : Nat) (bits : Burst) (s : State) : (burst ch bits s).sample = s.sample := by
  rw [burst_frame]
@[simp] theorem burst_ready (ch : Nat) (bits : Burst) (s : State) : (burst ch bits s).ready = s.ready := by
  rw [burst_frame]
@[simp] theorem burst_adcPend (ch : Nat) (bits : Burst) (s : State) : (burst ch bits s).adcPend = s.adcPend := by
  rw [burst_frame]

@[simp] theorem commandEffect_stream (i : Instr) (s : State) : (commandEffect i s).stream = s.stream := by
  cases i with
  | setMode m => cases m <;> simp [commandEffect, apply_ite State.stream]
  | _ => simp [commandEffect]

@[simp] theorem commandEffect_sample (i : Instr) (s : State) : (commandEffect i s).sample = s.sample := by
  cases i with
  | setMode m => cases m <;> simp [commandEffect, apply_ite State.sample]
  | _ => simp [commandEffect]

@[simp] theorem commandEffect_adcPend (i : Instr) (s : State) : (commandEffect i s).adcPend = s.adcPend := by
  cases i with
  | setMode m => cases m <;> simp [commandEffect, apply_ite State.adcPend]
  | _ => simp [commandEffect]

/-- The command that writes `READY`, and it clears it (42_sampler.md R132). -/
theorem commandEffect_ready (i : Instr) (s : State) :
    (commandEffect i s).ready = s.ready ∨ i = .takeSample ∧ (commandEffect i s).ready = false := by
  cases i with
  | setMode m => cases m <;> simp [commandEffect, apply_ite State.ready]
  | _ => simp [commandEffect]

/-- No agent other than MAIN writes the stream or the configuration. -/
theorem SideMove.cfg_stream {s t : State} {e : Event} (move : SideMove s e t) :
    t.cfg = s.cfg ∧ t.stream = s.stream := by
  cases move with
  | turnsWheel => rw [tickHandler_frame]; exact ⟨rfl, rfl⟩
  | _ => exact ⟨rfl, rfl⟩

/-- A reset carries the configuration and the stream over, and no other move writes them (20_memory.md R50, R65). -/
theorem step_cfg_stream {s t : State} (hstep : step s = .next t) : t.cfg = s.cfg ∧ t.stream = s.stream := by
  obtain ⟨-, ⟨d, -, rfl⟩ | ⟨-, hn, -⟩⟩ := step_next s t hstep
  · simp [State.resetBy, State.atReset]
  · obtain ⟨-, -, hmoved⟩ := moved_of_step hstep hn
    cases hmoved with
    | completes i => simp
    | faults => simp
    | side move => simpa using move.cfg_stream

/-- While `IE` is 0 neither handler is enabled (10_state.md R38). -/
theorem SideMove.eq_of_masked_handler {s t : State} {e : Event} (move : SideMove s e t) (masked : s.ie = false)
    (handler : e = .adcIsr ∨ e = .tickIsr) : t = s := by
  cases move with
  | rests => rfl
  | publishes enabled => simp [masked] at enabled
  | turnsWheel enabled => simp [masked] at enabled
  | converts => simp at handler
  | ticks => simp at handler

/-- While `IE` is 0 no agent other than MAIN writes the mailbox (42_sampler.md R137, R139), and the converter's one write
to `ADC_PEND` sets it (R136). -/
theorem SideMove.mailbox_of_masked {s t : State} {e : Event} (move : SideMove s e t) (masked : s.ie = false) :
    t.sample = s.sample ∧ t.ready = s.ready ∧ (s.adcPend = true → t.adcPend = true) := by
  cases move with
  | rests => exact ⟨rfl, rfl, id⟩
  | converts => exact ⟨rfl, rfl, fun _ => rfl⟩
  | ticks => exact ⟨rfl, rfl, id⟩
  | publishes enabled => simp [masked] at enabled
  | turnsWheel enabled => simp [masked] at enabled

end Sys2Proof.Laws
end

section
/-! The statements of 20_memory.md, each read off from the moves of a step. -/

namespace Sys2Proof.Laws

open Sys2Proof.Machine

/-- Settles O18: a step keeps the stream, and a read is a read of the stream. -/
theorem nothingWritesTheStream : Obligations.NothingWritesTheStream := by
  intro s t hstep
  obtain ⟨hcfg, hstream⟩ := step_cfg_stream hstep
  exact ⟨hcfg, fun a => by rw [memRead, memRead, hstream]⟩

/-- Settles O32: a masked handler has no move, the converter can only set `ADC_PEND`, and of MAIN's moves only
TAKE_SAMPLE writes the mailbox: it clears `READY`. -/
theorem maskedHandlersDoNotAct : Obligations.MaskedHandlersDoNotAct := by
  intro s t masked hstep hn
  obtain ⟨-, -, hmoved⟩ := moved_of_step hstep hn
  cases hmoved with
  | completes i main =>
    refine ⟨by simp [main], by simp, fun hready => ?_, by simp⟩
    obtain hkept | ⟨-, hcleared⟩ := commandEffect_ready i s.takeEvent
    · simpa [hkept] using hready
    · simp [hcleared] at hready
  | faults cause main => exact ⟨by simp [main], by simp, by simp, by simp⟩
  | side move =>
    have masked' : s.takeEvent.ie = false := by simpa using masked
    obtain ⟨hsample, hready, hpend⟩ := move.mailbox_of_masked masked'
    exact ⟨move.eq_of_masked_handler masked', by simpa using hsample, by simp [hready], by simpa using hpend⟩

end Sys2Proof.Laws
end

section
/-! A word put together from its fields, and a value from its low bits where the others are zero (30_encoding.md R70 to
R72). -/

namespace Sys2Proof.Laws

/-- A word is the command word of its three fields (R70). -/
theorem commandWord_fields (w : Word) : commandWord (opField w) (chField w) (w.extractLsb' 0 24) = w := by
  apply BitVec.eq_of_getLsbD_eq
  intro j hj
  rw [getLsbD_commandWord]
  split_ifs with himm hch
  · simp [himm]
  · have hj4 : j - 24 < 4 := by omega
    simp [chField, hj4, show 24 + (j - 24) = j by omega]
  · have hj4 : j - 28 < 4 := by omega
    simp [opField, hj4, show 28 + (j - 28) = j by omega]

/-- A field that lies inside a zero field is zero. -/
theorem extractLsb'_eq_zero_of_inside {m lo n : Nat} {x : BitVec m} (h : x.extractLsb' lo n = 0) (lo' n' : Nat)
    (hlo : lo ≤ lo') (hhi : lo' + n' ≤ lo + n) : x.extractLsb' lo' n' = 0 := by
  apply BitVec.eq_of_getLsbD_eq
  intro j hj
  have hbit := congrArg (fun y : BitVec n => y.getLsbD (lo' - lo + j)) h
  simp only [BitVec.getLsbD_extractLsb', show lo' - lo + j < n by omega, decide_true, Bool.true_and,
    show lo + (lo' - lo + j) = lo' + j by omega] at hbit
  simpa [hj] using hbit

/-- A field whose high bits are zero is its low bits, widened. -/
theorem extractLsb'_eq_setWidth {m k n t : Nat} {x : BitVec m} (h : x.extractLsb' k n = 0) (ht : k + n = t) :
    x.extractLsb' 0 t = (x.extractLsb' 0 k).setWidth t := by
  apply BitVec.eq_of_getLsbD_eq
  intro j hj
  by_cases hlow : j < k
  · simp [hj, hlow]
  · have hbit := congrArg (fun y : BitVec n => y.getLsbD (j - k)) h
    simp only [BitVec.getLsbD_extractLsb', show j - k < n by omega, decide_true, Bool.true_and,
      show k + (j - k) = j by omega] at hbit
    simpa [hj, hlow] using hbit

/-- The high bits of a widened value are zero. -/
theorem extractLsb'_setWidth_high {k m : Nat} (x : BitVec k) (n : Nat) : (x.setWidth m).extractLsb' k n = 0 := by
  apply BitVec.eq_of_getLsbD_eq
  intro j hj
  simp

/-- The low bits of a widened value are the value. -/
theorem extractLsb'_setWidth_low {k m : Nat} (x : BitVec k) (h : k ≤ m) : (x.setWidth m).extractLsb' 0 k = x := by
  apply BitVec.eq_of_getLsbD_eq
  intro j hj
  have hjm : j < m := by omega
  simp [hj, hjm]

/-- A word's colour operand is its low 24 bits (R72). -/
theorem operand_rgbField (w : Word) : (rgbField w).operand = w.extractLsb' 0 24 := by
  apply BitVec.eq_of_getLsbD_eq
  intro j hj
  rw [getLsbD_operand]
  split_ifs with hb hg
  · simp [rgbField, hb, hj]
  · have hj8 : j - 8 < 8 := by omega
    simp [rgbField, hj8, hj, show 8 + (j - 8) = j by omega]
  · have hj8 : j - 16 < 8 := by omega
    simp [rgbField, hj8, hj, show 16 + (j - 16) = j by omega]

/-- A word with bits 31:24 zero is the data word of its colour (R71). -/
theorem dataWord_rgbField {w : Word} (h : w.extractLsb' 24 8 = 0) : dataWord (rgbField w) = w := by
  rw [dataWord, operand_rgbField]
  exact (extractLsb'_eq_setWidth h rfl).symm.trans BitVec.extractLsb'_eq_self

/-- The colour of a command word's operand (R72). -/
@[simp] theorem rgbField_commandWord (op ch : BitVec 4) (p : Rgb) : rgbField (commandWord op ch p.operand) = p := by
  apply rgbField_operand
  intro j hj
  simp [getLsbD_commandWord, hj]

end Sys2Proof.Laws
end

section
/-! Which words each decoder accepts, and the command it answers (30_encoding.md R79). -/

namespace Sys2Proof.Laws

theorem modeOfCode_eq_some_iff (c : BitVec 2) (m : Mode) : modeOfCode c = some m ↔ c = m.code := by
  cases m <;> revert c <;> decide

/-- A check answers a value exactly where it is passed and what it guards answers it. -/
theorem guard_eq_ok {α : Type} {c : Prop} [Decidable c] {answer : Except Illegal α} {why : Illegal} {a : α} :
    (if c then answer else .error why) = .ok a ↔ c ∧ answer = .ok a := by
  split_ifs with hc <;> simp [hc]

theorem decodeZ_eq_ok (w : Word) (i j : Instr) : decodeZ w i = .ok j ↔ w.extractLsb' 0 28 = 0 ∧ i = j := by
  rw [decodeZ, guard_eq_ok, Except.ok.injEq]

theorem decodeSendBit_eq_ok (nch : Nat) (w : Word) (i : Instr) : decodeSendBit nch w = .ok i ↔
    channelExists nch (chField w) = true ∧ w.extractLsb' 1 23 = 0 ∧ .sendBit (chField w) (w.getLsbD 0) = i := by
  rw [decodeSendBit, guard_eq_ok, guard_eq_ok, Except.ok.injEq]

theorem decodeSendByte_eq_ok (nch : Nat) (w : Word) (i : Instr) : decodeSendByte nch w = .ok i ↔
    channelExists nch (chField w) = true ∧ w.extractLsb' 8 16 = 0 ∧ .sendByte (chField w) (byteField w) = i := by
  rw [decodeSendByte, guard_eq_ok, guard_eq_ok, Except.ok.injEq]

theorem decodeSendPixel_eq_ok (nch : Nat) (w : Word) (i : Instr) : decodeSendPixel nch w = .ok i ↔
    channelExists nch (chField w) = true ∧ .sendPixel (chField w) (rgbField w) = i := by
  rw [decodeSendPixel, guard_eq_ok, Except.ok.injEq]

theorem decodeFrame_eq_ok (nch : Nat) (w : Word) (rest : List Word) (i : Instr) : decodeFrame nch w rest = .ok i ↔
    channelExists nch (chField w) = true ∧ w.extractLsb' 16 8 = 0 ∧
      ∃ px, framePixels (countField w) rest = .ok px ∧ .frame (chField w) px = i := by
  rw [decodeFrame, guard_eq_ok, guard_eq_ok]
  cases framePixels (countField w) rest <;> simp

theorem decodeSetMode_eq_ok (w : Word) (i : Instr) : decodeSetMode w = .ok i ↔
    w.extractLsb' 2 26 = 0 ∧ ∃ m : Mode, w.extractLsb' 0 2 = m.code ∧ .setMode m = i := by
  rw [decodeSetMode, guard_eq_ok]
  simp only [← modeOfCode_eq_some_iff]
  cases modeOfCode (w.extractLsb' 0 2) <;> simp

/-- A FRAME's colours are read exactly where their data words stand (R71, R79). -/
theorem framePixels_eq_ok (n : Nat) (ws : List Word) (px : List Rgb) :
    framePixels n ws = .ok px ↔ px.length = n ∧ ∃ after, ws = px.map dataWord ++ after := by
  constructor
  · intro h
    refine ⟨(framePixels_length h).1, ?_⟩
    induction n generalizing ws px with
    | zero => cases h; exact ⟨ws, rfl⟩
    | succ n ih =>
      cases ws with
      | nil => cases h
      | cons w ws =>
        rw [framePixels] at h
        split_ifs at h with hreserved
        split at h
        · next tail htail =>
          cases h
          obtain ⟨after, rfl⟩ := ih _ _ htail
          exact ⟨after, by simp [dataWord_rgbField hreserved]⟩
        · cases h
  · rintro ⟨rfl, after, rfl⟩
    exact framePixels_dataWords px after

/-- The colours can be read exactly where enough words follow and their reserved bits are zero (R76). -/
theorem exists_framePixels_iff (n : Nat) (ws : List Word) :
    (∃ px, framePixels n ws = .ok px) ↔
      n ≤ ws.length ∧ ∀ k < n, ∀ x, ws[k]? = some x → x.extractLsb' 24 8 = 0 := by
  induction n generalizing ws with
  | zero => simp [framePixels]
  | succ n ih =>
    cases ws with
    | nil => simp [framePixels]
    | cons w ws =>
      have hcons : (∃ px, framePixels (n + 1) (w :: ws) = .ok px) ↔
          w.extractLsb' 24 8 = 0 ∧ ∃ px, framePixels n ws = .ok px := by
        simp only [framePixels, guard_eq_ok, exists_and_left]
        cases framePixels n ws <;> simp
      rw [hcons, ih, Nat.forall_lt_succ_left]
      simp only [List.length_cons, Nat.add_le_add_iff_right, List.getElem?_cons_zero, Option.some.injEq, forall_eq',
        List.getElem?_cons_succ, and_left_comm]

end Sys2Proof.Laws
end

section
/-! Decoding and encoding undo each other (30_encoding.md R75, R79). -/

namespace Sys2Proof.Laws

/-- The decoder of a word is the one of its opcode, and answers that opcode's command (R75, R79). -/
theorem opField_of_decodeWords {nch : Nat} {w : Word} {rest : List Word} {i : Instr}
    (h : decodeWords nch w rest = .ok i) : opField w = opcodeOf i := by
  apply BitVec.eq_of_toNat_eq
  unfold decodeWords at h
  split at h <;>
    simp only [decodeZ_eq_ok, decodeSendBit_eq_ok, decodeSendByte_eq_ok, decodeSendPixel_eq_ok, decodeFrame_eq_ok,
      decodeSetMode_eq_ok, reduceCtorEq] at h
  case h_2 hop | h_3 hop => obtain ⟨-, -, rfl⟩ := h; exact hop
  case h_5 hop => obtain ⟨-, -, px, -, rfl⟩ := h; exact hop
  case h_12 hop => obtain ⟨-, m, -, rfl⟩ := h; exact hop
  all_goals
    obtain ⟨-, rfl⟩ := h
    assumption

/-- The first word of a command tells its length (R78). -/
theorem lengthOfWord_of_decodeWords {nch : Nat} {w : Word} {rest : List Word} {i : Instr}
    (h : decodeWords nch w rest = .ok i) : i.length = lengthOfWord w := by
  have hop := opField_of_decodeWords h
  cases i with
  | frame ch px =>
    obtain ⟨hcount, -⟩ := decodeFrame_length (decodeFrame_of_decodeWords h)
    simp [lengthOfWord, hop, opcodeOf, Instr.length, hcount]
  | _ => simp [lengthOfWord, hop, opcodeOf, Instr.length]

/-- A command word with a channel, put together from its operand's `k` bits (R71). -/
theorem eq_commandWord_of_reserved {w : Word} {op : BitVec 4} {k n : Nat} (hop : opField w = op)
    (h : w.extractLsb' k n = 0) (hkn : k + n = 24) :
    w = commandWord op (chField w) ((w.extractLsb' 0 k).setWidth 24) := by
  rw [← extractLsb'_eq_setWidth h hkn, ← hop, commandWord_fields]

/-- A command word without a channel, put together from its operand's `k` bits (R71). -/
theorem eq_commandWord_zero_of_reserved {w : Word} {op : BitVec 4} {k n : Nat} (hop : opField w = op)
    (h : w.extractLsb' k n = 0) (hkn : k + n = 28) (hk : k ≤ 24) :
    w = commandWord op 0 ((w.extractLsb' 0 k).setWidth 24) := by
  have hch : chField w = 0 := extractLsb'_eq_zero_of_inside h 24 4 hk (by omega)
  have himm : w.extractLsb' k (24 - k) = 0 := extractLsb'_eq_zero_of_inside h k (24 - k) le_rfl (by omega)
  rw [← hch]
  exact eq_commandWord_of_reserved hop himm (by omega)

/-- A Z word, put together from its opcode (R71). -/
theorem eq_commandWord_zero_zero {w : Word} {op : BitVec 4} (hop : opField w = op) (h : w.extractLsb' 0 28 = 0) :
    w = commandWord op 0 0 :=
  (eq_commandWord_zero_of_reserved hop h rfl (by decide)).trans
    (congrArg (commandWord op 0) (BitVec.eq_of_toNat_eq (by simp)))

/-- The one bit of SEND_BIT as its 1-bit field (R72). -/
theorem ofBool_getLsbD_zero (w : Word) : BitVec.ofBool (w.getLsbD 0) = w.extractLsb' 0 1 := by
  apply BitVec.eq_of_getLsbD_eq
  intro j hj
  obtain rfl : j = 0 := by omega
  simp

theorem wf_frame {nch : Nat} {ch : BitVec 4} {px : List Rgb} :
    (Instr.frame ch px).wf nch = true ↔ channelExists nch ch = true ∧ px.length ≤ 65535 := by
  simp [Instr.wf, countFits]

/-- A word that decodes starts the encoder's words for its command, a command of the block (R75, R79). -/
theorem encode_of_decodeWords {nch : Nat} {w : Word} {rest : List Word} {i : Instr}
    (h : decodeWords nch w rest = .ok i) : i.wf nch = true ∧ ∃ after, w :: rest = encode i ++ after := by
  have hop := opField_of_decodeWords h
  simp only [decodeWords, hop] at h
  cases i with
  | sendBit ch v =>
    obtain ⟨hch, hreserved, hi⟩ := (decodeSendBit_eq_ok ..).mp h
    cases hi
    refine ⟨hch, rest, congrArg (· :: rest) ?_⟩
    rw [ofBool_getLsbD_zero]
    exact eq_commandWord_of_reserved hop hreserved rfl
  | sendByte ch byte =>
    obtain ⟨hch, hreserved, hi⟩ := (decodeSendByte_eq_ok ..).mp h
    cases hi
    exact ⟨hch, rest, congrArg (· :: rest) (eq_commandWord_of_reserved hop hreserved rfl)⟩
  | sendPixel ch p =>
    obtain ⟨hch, hi⟩ := (decodeSendPixel_eq_ok ..).mp h
    cases hi
    refine ⟨hch, rest, congrArg (· :: rest) ?_⟩
    rw [operand_rgbField]
    exact (commandWord_fields w).symm.trans (congrArg (commandWord · _ _) hop)
  | frame ch px =>
    obtain ⟨hch, hreserved, px, hpx, hi⟩ := (decodeFrame_eq_ok ..).mp h
    cases hi
    obtain ⟨hlength, after, rfl⟩ := (framePixels_eq_ok ..).mp hpx
    refine ⟨?_, after, congrArg (· :: _) ?_⟩
    · have hfits : px.length ≤ 65535 := hlength ▸ Nat.le_of_lt_succ (w.extractLsb' 0 16).isLt
      exact wf_frame.mpr ⟨hch, hfits⟩
    · rw [hlength, countField, BitVec.ofNat_toNat]
      exact eq_commandWord_of_reserved hop hreserved rfl
  | setMode m =>
    obtain ⟨hreserved, m, hm, hi⟩ := (decodeSetMode_eq_ok ..).mp h
    cases hi
    refine ⟨rfl, rest, congrArg (· :: rest) ?_⟩
    rw [← hm]
    exact eq_commandWord_zero_of_reserved hop hreserved rfl (by decide)
  | _ =>
    obtain ⟨hreserved, -⟩ := (decodeZ_eq_ok ..).mp h
    exact ⟨rfl, rest, congrArg (· :: rest) (eq_commandWord_zero_zero hop hreserved)⟩

/-- The bits of a command word above a `k`-bit operand are zero (R71). -/
theorem extract_commandWord_high {k : Nat} (op ch : BitVec 4) (x : BitVec k) (n : Nat) (h : k + n ≤ 24) :
    (commandWord op ch (x.setWidth 24)).extractLsb' k n = 0 := by
  rw [extract_commandWord _ _ _ _ _ h, extractLsb'_setWidth_high]

/-- A `k`-bit operand is read back from its command word (R72). -/
theorem extract_commandWord_low {k : Nat} (op ch : BitVec 4) (x : BitVec k) (h : k ≤ 24) :
    (commandWord op ch (x.setWidth 24)).extractLsb' 0 k = x := by
  rw [extract_commandWord _ _ _ _ _ (by omega), extractLsb'_setWidth_low _ h]

/-- A count of at most 65535 pixels as its 16-bit field (R72). -/
theorem ofNat_count {n : Nat} (h : n ≤ 65535) : BitVec.ofNat 24 n = (BitVec.ofNat 16 n).setWidth 24 := by
  apply BitVec.eq_of_toNat_eq
  rw [BitVec.toNat_setWidth, BitVec.toNat_ofNat, BitVec.toNat_ofNat]
  omega

/-- The encoder's words for a command of the block decode to it, whatever follows them (R75, R79). -/
theorem decodeWords_encode {nch : Nat} {w : Word} {rest after : List Word} {i : Instr} (hwf : i.wf nch = true)
    (h : w :: rest = encode i ++ after) : decodeWords nch w rest = .ok i := by
  cases i with
  | sendBit ch v =>
    cases h
    simp only [decodeWords, opField_commandWord]
    refine (decodeSendBit_eq_ok ..).mpr
      ⟨by rwa [chField_commandWord], extract_commandWord_high _ _ _ _ (by decide), ?_⟩
    rw [chField_commandWord, getLsbD_commandWord]
    simp
  | sendByte ch byte =>
    cases h
    simp only [decodeWords, opField_commandWord]
    refine (decodeSendByte_eq_ok ..).mpr
      ⟨by rwa [chField_commandWord], extract_commandWord_high _ _ _ _ (by decide), ?_⟩
    rw [chField_commandWord, byteField, extract_commandWord_low _ _ _ (by decide)]
  | sendPixel ch p =>
    cases h
    simp only [decodeWords, opField_commandWord]
    exact (decodeSendPixel_eq_ok ..).mpr ⟨by rwa [chField_commandWord], by simp⟩
  | frame ch px =>
    obtain ⟨hch, hfits⟩ := wf_frame.mp hwf
    cases h
    simp only [decodeWords, opField_commandWord, ofNat_count hfits]
    refine (decodeFrame_eq_ok ..).mpr
      ⟨by rwa [chField_commandWord], extract_commandWord_high _ _ _ _ (by decide), px, ?_, by rw [chField_commandWord]⟩
    rw [countField, extract_commandWord_low _ _ _ (by decide), BitVec.toNat_ofNat, Nat.mod_eq_of_lt (by omega)]
    exact framePixels_dataWords px after
  | setMode m =>
    cases h
    simp only [decodeWords, opField_commandWord]
    refine (decodeSetMode_eq_ok ..).mpr ⟨?_, m, extract_commandWord_low _ _ _ (by decide), rfl⟩
    cases m <;> decide
  | _ =>
    cases h
    simp only [decodeWords, opField_commandWord]
    exact (decodeZ_eq_ok ..).mpr ⟨extract_commandWord_zero _, rfl⟩

/-- The decoder is at the first word of what is left of the stream. -/
theorem decode_of_getElem? {nch : Nat} {stream : List Word} {cp : Nat} {w : Word} (h : stream[cp]? = some w) :
    decode nch stream cp = decodeWords nch w (stream.drop (cp + 1)) := by
  obtain ⟨hlt, rfl⟩ := List.getElem?_eq_some_iff.mp h
  rw [decode, List.drop_eq_getElem_cons hlt]

theorem length_encode (i : Instr) : (encode i).length = i.length := by
  cases i with
  | frame ch px => exact EncodeLength.frame ch px
  | _ => rfl

/-- The decoder answers a command exactly where the encoder's words for it stand, a command of the block (R75, R79). -/
theorem decode_eq_ok (nch : Nat) (stream : List Word) (cp : Nat) (i : Instr) :
    decode nch stream cp = .ok i ↔ i.wf nch = true ∧ ∃ after, stream.drop cp = encode i ++ after := by
  constructor
  · intro h
    unfold decode at h
    split at h
    · cases h
    · next w rest hdrop =>
      rw [hdrop]
      exact encode_of_decodeWords h
  · rintro ⟨hwf, after, hdrop⟩
    unfold decode
    split
    · next hnil =>
      rw [hdrop] at hnil
      have hlength := congrArg List.length hnil
      have hpos := instr_length_pos i
      rw [List.length_append, length_encode, List.length_nil] at hlength
      omega
    · next w rest hcons => exact decodeWords_encode hwf (hcons.symm.trans hdrop)

end Sys2Proof.Laws
end

section
/-! The opcode table's rows against the encoder's words (30_encoding.md R75, R83). -/

namespace Sys2Proof.Laws

/-- A widened value has none of the bits above it. -/
theorem setWidth_and_high {k m : Nat} (x : BitVec k) : x.setWidth m &&& BitVec.allOnes m <<< k = 0 := by
  apply BitVec.eq_of_getLsbD_eq
  intro j hj
  by_cases hlow : j < k
  · simp [hlow]
  · simp [BitVec.getLsbD_of_ge x j (by omega)]

/-- Masking a command word masks its fields (R70). -/
theorem commandWord_and (op op' ch ch' : BitVec 4) (imm imm' : BitVec 24) :
    commandWord op ch imm &&& commandWord op' ch' imm' = commandWord (op &&& op') (ch &&& ch') (imm &&& imm') := by
  apply BitVec.eq_of_getLsbD_eq
  intro j hj
  simp only [BitVec.getLsbD_and, getLsbD_commandWord]
  split_ifs <;> rfl

/-- Of a command word with nothing under the mask but its opcode, the mask leaves the opcode. -/
theorem commandWord_and_mask {op ch chMask : BitVec 4} {imm immMask : BitVec 24} (hch : ch &&& chMask = 0)
    (himm : imm &&& immMask = 0) : commandWord op ch imm &&& commandWord 0xF chMask immMask = commandWord op 0 0 := by
  rw [commandWord_and, hch, himm, show (0xF : BitVec 4) = BitVec.allOnes 4 from rfl, BitVec.and_allOnes]

/-- The fixed bits of a command's pattern (R75): the opcode, the channel field where the command has no channel, and
what of the operand field is above its operand. -/
def maskOf : Instr → Word
  | .sendBit _ _ => commandWord 0xF 0 (BitVec.allOnes 24 <<< 1)
  | .sendByte _ _ => commandWord 0xF 0 (BitVec.allOnes 24 <<< 8)
  | .sendPixel _ _ => commandWord 0xF 0 0
  | .frame _ _ => commandWord 0xF 0 (BitVec.allOnes 24 <<< 16)
  | .setMode _ => commandWord 0xF 0xF (BitVec.allOnes 24 <<< 2)
  | _ => commandWord 0xF 0xF (BitVec.allOnes 24)

/-- The opcode table's row of a command has the command's pattern (R75). -/
theorem row_of_mnemonic (i : Instr) : ∀ row ∈ opcodeTable, row.mnemonic = i.mnemonic →
    row.mask = maskOf i ∧ row.bits = commandWord (opcodeOf i) 0 0 := by
  cases i <;> simp only [Instr.mnemonic, maskOf, opcodeOf] <;> decide

/-- The rows are told apart by their opcodes (R83). -/
theorem mnemonic_of_opField (i : Instr) : ∀ row ∈ opcodeTable, opField row.bits = opcodeOf i →
    row.mnemonic = i.mnemonic := by
  cases i <;> simp only [Instr.mnemonic, opcodeOf] <;> decide

/-- Every row fixes the opcode (R83). -/
theorem opField_of_matches {w : Word} : ∀ row ∈ opcodeTable, row.matches w = true → opField w = opField row.bits := by
  intro row hrow hmatches
  have hmask : ∀ row ∈ opcodeTable, opField row.mask = BitVec.allOnes 4 := by decide
  have hbits : w &&& row.mask = row.bits := by simpa [OpcodeRow.matches] using hmatches
  have hand : opField (w &&& row.mask) = opField w &&& opField row.mask := BitVec.extractLsb'_and
  rw [← hbits, hand, hmask row hrow, BitVec.and_allOnes]

/-- The encoder's first word has the fixed bits of its command's pattern (R75). -/
theorem encode_and_maskOf {nch : Nat} {w : Word} {rest after : List Word} {i : Instr} (hwf : i.wf nch = true)
    (h : w :: rest = encode i ++ after) : w &&& maskOf i = commandWord (opcodeOf i) 0 0 := by
  cases i with
  | sendBit ch v => cases h; exact commandWord_and_mask BitVec.and_zero (setWidth_and_high _)
  | sendByte ch byte => cases h; exact commandWord_and_mask BitVec.and_zero (setWidth_and_high _)
  | sendPixel ch p => cases h; exact commandWord_and_mask BitVec.and_zero BitVec.and_zero
  | frame ch px =>
    obtain ⟨-, hfits⟩ := wf_frame.mp hwf
    cases h
    rw [ofNat_count hfits]
    exact commandWord_and_mask BitVec.and_zero (setWidth_and_high _)
  | setMode m => cases h; exact commandWord_and_mask BitVec.zero_and (setWidth_and_high _)
  | _ => cases h; exact commandWord_and_mask BitVec.zero_and BitVec.zero_and

end Sys2Proof.Laws
end

section
/-! The list of illegal words and the decoder (30_encoding.md R76), and MAIN's step on a word that does not decode. -/

namespace Sys2Proof.Laws

open Sys2Proof.Machine

theorem exists_decodeZ_iff (w : Word) (i : Instr) : (∃ j, decodeZ w i = .ok j) ↔ w.extractLsb' 0 28 = 0 := by
  simp only [decodeZ_eq_ok, exists_and_left, exists_eq', and_true]

theorem exists_decodeSendBit_iff (nch : Nat) (w : Word) : (∃ i, decodeSendBit nch w = .ok i) ↔
    w.extractLsb' 1 23 = 0 ∧ channelExists nch (chField w) = true := by
  rw [and_comm]
  simp only [decodeSendBit_eq_ok, exists_and_left, exists_eq', and_true]

theorem exists_decodeSendByte_iff (nch : Nat) (w : Word) : (∃ i, decodeSendByte nch w = .ok i) ↔
    w.extractLsb' 8 16 = 0 ∧ channelExists nch (chField w) = true := by
  rw [and_comm]
  simp only [decodeSendByte_eq_ok, exists_and_left, exists_eq', and_true]

theorem exists_decodeSendPixel_iff (nch : Nat) (w : Word) : (∃ i, decodeSendPixel nch w = .ok i) ↔
    channelExists nch (chField w) = true := by
  simp only [decodeSendPixel_eq_ok, exists_and_left, exists_eq', and_true]

theorem exists_decodeFrame_iff (nch : Nat) (w : Word) (rest : List Word) : (∃ i, decodeFrame nch w rest = .ok i) ↔
    w.extractLsb' 16 8 = 0 ∧ channelExists nch (chField w) = true ∧ countField w ≤ rest.length ∧
      ∀ k < countField w, ∀ x, rest[k]? = some x → x.extractLsb' 24 8 = 0 := by
  simp only [decodeFrame_eq_ok, exists_and_left, ← exists_framePixels_iff]
  rw [exists_comm, and_left_comm]
  simp only [exists_and_left, exists_eq', and_true]

/-- Every code but 3 is a mode's (10_state.md R23). -/
theorem exists_code_iff (c : BitVec 2) : (∃ m : Mode, c = m.code) ↔ c ≠ 3 := by
  constructor
  · rintro ⟨m, rfl⟩
    cases m <;> decide
  · intro hc
    have hmode : ∀ c : BitVec 2, c ≠ 3 → (modeOfCode c).isSome = true := by decide
    obtain ⟨m, hm⟩ := Option.isSome_iff_exists.mp (hmode c hc)
    exact ⟨m, (modeOfCode_eq_some_iff c m).mp hm⟩

theorem exists_decodeSetMode_iff (w : Word) : (∃ i, decodeSetMode w = .ok i) ↔
    w.extractLsb' 2 26 = 0 ∧ w.extractLsb' 0 2 ≠ 3 := by
  simp only [decodeSetMode_eq_ok, exists_and_left, ← exists_code_iff]
  rw [exists_comm]
  simp only [exists_and_left, exists_eq', and_true]

/-- The list of R76 for a word and the words after it. -/
def ListedIllegal (nch : Nat) (w : Word) (rest : List Word) : Prop :=
  let op := opField w
  (op = 0xE ∨ op = 0xF) ∨
  ((op = 0x0 ∨ op = 0x5 ∨ op = 0x6 ∨ op = 0x7 ∨ op = 0x8 ∨ op = 0x9 ∨ op = 0xA ∨ op = 0xC ∨ op = 0xD) ∧
    w.extractLsb' 0 28 ≠ 0) ∨
  (op = 0x1 ∧ w.extractLsb' 1 23 ≠ 0) ∨ (op = 0x2 ∧ w.extractLsb' 8 16 ≠ 0) ∨
  (op = 0x4 ∧ w.extractLsb' 16 8 ≠ 0) ∨ (op = 0xB ∧ w.extractLsb' 2 26 ≠ 0) ∨
  ((op = 0x1 ∨ op = 0x2 ∨ op = 0x3 ∨ op = 0x4) ∧ nch ≤ (chField w).toNat) ∨
  (op = 0xB ∧ w.extractLsb' 0 2 = 3) ∨
  (op = 0x4 ∧ rest.length < countField w) ∨
  (op = 0x4 ∧ ∃ k < countField w, ∃ x, rest[k]? = some x ∧ x.extractLsb' 24 8 ≠ 0)

/-- A word decodes exactly when it is not in the list of R76: opcode by opcode, its decoder's checks. -/
theorem exists_decodeWords_iff (nch : Nat) (w : Word) (rest : List Word) :
    (∃ i, decodeWords nch w rest = .ok i) ↔ ¬ ListedIllegal nch w rest := by
  unfold decodeWords ListedIllegal
  generalize opField w = op
  obtain ⟨⟨op, hop⟩⟩ := op
  interval_cases op <;>
    simp [exists_decodeZ_iff, exists_decodeSendBit_iff, exists_decodeSendByte_iff, exists_decodeSendPixel_iff,
      exists_decodeFrame_iff, exists_decodeSetMode_iff, channelExists]

/-- MAIN's turn on a word that does not decode: ILLEGAL_CMD and no other effect (60_exceptions.md R242). -/
theorem step_of_not_decoded {s : State} {w : Word} (hm : s.MainAt w)
    (h : ¬ ∃ i, decode s.cfg.nch s.stream s.cp = .ok i) :
    ∃ t, step s = .next t ∧ FaultsInto s.takeEvent .illegalCmd w t := by
  refine ⟨s.takeEvent.enterFault .illegalCmd, ?_, ?_⟩
  · rw [step_of_moves s .main hm.toMoves]
    obtain ⟨hend, -⟩ | ⟨-, i, hi, -⟩ | ⟨-, -, -, hturn⟩ := mainTurn_cases s.takeEvent
    · rw [takeEvent_stream, takeEvent_cp] at hend
      have hw : s.stream[s.cp]? = some w := hm.word
      rw [List.getElem?_eq_none hend] at hw
      cases hw
    · rw [fetch_takeEvent] at hi
      exact absurd ⟨i, hi⟩ h
    · exact hturn
  · have hw : memRead s.takeEvent s.takeEvent.cp = some w := by simpa [memRead] using hm.word
    rw [FaultsInto, State.enterFault, hw]
    rfl

end Sys2Proof.Laws
end

section
/-! The statements of 30_encoding.md, each read off from what the decoder accepts. -/

namespace Sys2Proof.Laws

open Sys2Proof.Machine

/-- Settles O8: the encoder's words stand at that place. -/
theorem decodeOfEncodeIsTheCommand : Obligations.DecodeOfEncodeIsTheCommand := by
  intro nch before after i hwf
  exact (decode_eq_ok ..).mpr ⟨hwf, after, by rw [List.append_assoc, List.drop_left]⟩

/-- Settles O9: the encoder's words stand there, and they are as many as the command is long. -/
theorem decodedWordsAreTheEncoding : Obligations.DecodedWordsAreTheEncoding := by
  intro nch stream cp i h
  obtain ⟨hwf, after, hdrop⟩ := (decode_eq_ok ..).mp h
  exact ⟨hwf, by rw [hdrop, List.take_left' (length_encode i)]⟩

/-- Settles O10: the length is the one the first word tells. -/
theorem firstWordGivesTheLength : Obligations.FirstWordGivesTheLength := by
  intro nch stream cp i w h hw
  rw [decode_of_getElem? hw] at h
  exact lengthOfWord_of_decodeWords h

/-- Settles O11: the row's opcode is the word's and so the command's, and the encoder's word has its row's bits. -/
theorem decodedWordMatchesItsRowOnly : Obligations.DecodedWordMatchesItsRowOnly := by
  intro nch stream cp i w h hw row hrow
  rw [decode_of_getElem? hw] at h
  constructor
  · intro hmatches
    exact mnemonic_of_opField i row hrow ((opField_of_matches row hrow hmatches).symm.trans (opField_of_decodeWords h))
  · intro hname
    obtain ⟨hmask, hbits⟩ := row_of_mnemonic i row hrow hname
    obtain ⟨hwf, after, hwords⟩ := encode_of_decodeWords h
    rw [OpcodeRow.matches, hmask, hbits, beq_iff_eq]
    exact encode_and_maskOf hwf hwords

/-- Settles O12: the step faults where the word does not decode and runs it where it does, and the list of R76 says
which. -/
theorem exactlyTheListedWordsAreIllegal : Obligations.ExactlyTheListedWordsAreIllegal := by
  intro s w hm op ch n illegal
  have hw : s.stream[s.cp]? = some w := hm.word
  have hlisted : illegal ↔ ListedIllegal s.cfg.nch w (s.stream.drop (s.cp + 1)) := by
    have hmissing : (s.stream.drop (s.cp + 1)).length < countField w ↔ s.stream.length ≤ s.cp + n := by
      obtain ⟨hlt, -⟩ := List.getElem?_eq_some_iff.mp hw
      rw [List.length_drop, show countField w = n from rfl]
      omega
    have hread : ∀ k, (s.stream.drop (s.cp + 1))[k]? = memRead s (s.cp + 1 + k) := fun k => List.getElem?_drop
    simp only [ListedIllegal, hmissing, hread]
    rfl
  have hdecodes : (∃ i, decode s.cfg.nch s.stream s.cp = .ok i) ↔ ¬ illegal := by
    rw [hlisted, ← exists_decodeWords_iff, decode_of_getElem? hw]
  constructor
  · intro hillegal
    exact step_of_not_decoded hm fun hdec => hdecodes.mp hdec hillegal
  · intro hlegal
    obtain ⟨i, hi⟩ := hdecodes.mpr hlegal
    exact ⟨i, hi, stepRunsTheDecodedCommand s i hm.toMoves hi⟩

/-- Settles O7: each word is written out. -/
theorem writtenOutWordsDecode : Obligations.WrittenOutWordsDecode := by
  unfold Obligations.WrittenOutWordsDecode
  decide

end Sys2Proof.Laws
end

section
/-! MAIN's step on a word of one opcode, and which words the encoder's four opcodes accept (30_encoding.md R79). -/

namespace Sys2Proof.Laws

open Sys2Proof.Machine

/-- A word of an opcode whose decoder answers the one command `i`, on the legal words only, is run as `i` or raises
ILLEGAL_CMD (30_encoding.md R79, 60_exceptions.md R241). -/
theorem step_of_decodeWords_iff {s : State} {w : Word} {i : Instr} {legal : Prop} [Decidable legal] (hm : s.MainAt w)
    (hdecode : ∀ j, decodeWords s.cfg.nch w (s.stream.drop (s.cp + 1)) = .ok j ↔ legal ∧ i = j) :
    if legal then step s = exec i s.takeEvent
    else ∃ t, step s = .next t ∧ FaultsInto s.takeEvent .illegalCmd w t := by
  simp only [← decode_of_getElem? hm.word] at hdecode
  split_ifs with hlegal
  · exact stepRunsTheDecodedCommand s i hm.toMoves ((hdecode i).mpr ⟨hlegal, rfl⟩)
  · exact step_of_not_decoded hm fun ⟨j, hj⟩ => hlegal ((hdecode j).mp hj).1

theorem channelExists_iff {nch : Nat} {ch : BitVec 4} : channelExists nch ch = true ↔ ch.toNat < nch :=
  decide_eq_true_iff

theorem decodeWords_sendBit_iff {nch : Nat} {w : Word} (rest : List Word) (hop : opField w = 0x1) (i : Instr) :
    decodeWords nch w rest = .ok i ↔
      ((chField w).toNat < nch ∧ w.extractLsb' 1 23 = 0) ∧ .sendBit (chField w) (w.getLsbD 0) = i := by
  have hdispatch : decodeWords nch w rest = decodeSendBit nch w := by rw [decodeWords, hop]; rfl
  rw [hdispatch, decodeSendBit_eq_ok, channelExists_iff, and_assoc]

theorem decodeWords_sendByte_iff {nch : Nat} {w : Word} (rest : List Word) (hop : opField w = 0x2) (i : Instr) :
    decodeWords nch w rest = .ok i ↔
      ((chField w).toNat < nch ∧ w.extractLsb' 8 16 = 0) ∧ .sendByte (chField w) (byteField w) = i := by
  have hdispatch : decodeWords nch w rest = decodeSendByte nch w := by rw [decodeWords, hop]; rfl
  rw [hdispatch, decodeSendByte_eq_ok, channelExists_iff, and_assoc]

theorem decodeWords_sendPixel_iff {nch : Nat} {w : Word} (rest : List Word) (hop : opField w = 0x3) (i : Instr) :
    decodeWords nch w rest = .ok i ↔ (chField w).toNat < nch ∧ .sendPixel (chField w) (rgbField w) = i := by
  have hdispatch : decodeWords nch w rest = decodeSendPixel nch w := by rw [decodeWords, hop]; rfl
  rw [hdispatch, decodeSendPixel_eq_ok, channelExists_iff]

/-- The colours of the next `n` words, a missing one read as zero. -/
def pixelsOfWords (n : Nat) (ws : List Word) : List Rgb := (List.range n).map fun k => rgbField (ws[k]?.getD 0)

theorem pixelsOfWords_eq_nil_iff (n : Nat) (ws : List Word) : pixelsOfWords n ws = [] ↔ n = 0 := by simp [pixelsOfWords]

theorem length_pixelsOfWords (n : Nat) (ws : List Word) : (pixelsOfWords n ws).length = n := by simp [pixelsOfWords]

/-- The colours a FRAME reads are those of the words after its header (30_encoding.md R79). -/
theorem eq_pixelsOfWords_of_framePixels {n : Nat} {ws : List Word} {px : List Rgb} (h : framePixels n ws = .ok px) :
    px = pixelsOfWords n ws := by
  obtain ⟨rfl, after, rfl⟩ := (framePixels_eq_ok ..).mp h
  refine List.ext_getElem (length_pixelsOfWords ..).symm fun k hk _ => ?_
  have hread : (px.map dataWord ++ after)[k]? = some (dataWord px[k]) := by
    rw [List.getElem?_append_left (by simpa using hk), List.getElem?_map, List.getElem?_eq_getElem hk, Option.map_some]
  simp [pixelsOfWords, hread]

/-- A FRAME's colours can be read exactly where its words are there and their reserved bits zero, and they are then
those words' (30_encoding.md R76, R79). -/
theorem framePixels_eq_ok_iff_reserved (n : Nat) (ws : List Word) (px : List Rgb) : framePixels n ws = .ok px ↔
    (n ≤ ws.length ∧ ∀ k < n, (ws[k]?.getD 0).extractLsb' 24 8 = 0) ∧ pixelsOfWords n ws = px := by
  have hreserved : ∀ o : Option Word, (∀ x, o = some x → x.extractLsb' 24 8 = 0) ↔ (o.getD 0).extractLsb' 24 8 = 0 := by
    intro o
    cases o <;> simp
  simp only [← hreserved]
  rw [← exists_framePixels_iff]
  constructor
  · exact fun h => ⟨⟨px, h⟩, (eq_pixelsOfWords_of_framePixels h).symm⟩
  · rintro ⟨⟨px', h⟩, rfl⟩
    rwa [← eq_pixelsOfWords_of_framePixels h]

theorem decodeWords_frame_iff {nch : Nat} {w : Word} (rest : List Word) (hop : opField w = 0x4) (i : Instr) :
    decodeWords nch w rest = .ok i ↔
      ((chField w).toNat < nch ∧ w.extractLsb' 16 8 = 0 ∧ countField w ≤ rest.length ∧
        ∀ k < countField w, (rest[k]?.getD 0).extractLsb' 24 8 = 0) ∧
      .frame (chField w) (pixelsOfWords (countField w) rest) = i := by
  have hdispatch : decodeWords nch w rest = decodeFrame nch w rest := by rw [decodeWords, hop]; rfl
  rw [hdispatch, decodeFrame_eq_ok, channelExists_iff]
  simp only [framePixels_eq_ok_iff_reserved, and_assoc, exists_and_left, exists_eq_left']

end Sys2Proof.Laws
end

section
/-! What the encoder's commands send (40_led_encoder.md R102 to R105), and a burst's wave in time (R100, R101). -/

namespace Sys2Proof.Laws

open Sys2Proof.Machine

/-- While interrupts are enabled a primitive send is refused (40_led_encoder.md R102 to R104). -/
theorem primitiveSend_of_unmasked (ch : BitVec 4) (bits : Burst) {s : State} (h : s.ie = true) :
    primitiveSend ch bits s = .next (s.enterFault .unmaskedSend) :=
  (primitiveSend_next ..).mpr (.inl ⟨h, rfl⟩)

/-- While interrupts are masked a primitive send is one burst and nothing else (40_led_encoder.md R102 to R104). -/
theorem primitiveSend_of_masked (ch : BitVec 4) {bits : Burst} {s : State} (h : s.ie = false) (hbits : bits ≠ []) :
    primitiveSend ch bits s = .next { s with
      wire := s.wire.modify ch.toNat (fun old => old ++ [bits])
      line := s.line.set ch.toNat false
      cp := s.cp + 1 } :=
  (primitiveSend_next ..).mpr (.inr ⟨h, by rw [burst_eq, if_neg hbits]; rfl⟩)

/-- The colour of a word goes out as its bits 23 down to 0 (20_memory.md R54). -/
theorem pixelBits_rgbField (w : Word) : pixelBits (rgbField w) = (List.range 24).map fun j => w.getLsbD (23 - j) := by
  simp [pixelBits, byteBits, msbFirst, rgbField, List.range_succ]

/-- A FRAME's words go out as their bits 23 down to 0, word after word (20_memory.md R55). -/
theorem frameBits_pixelsOfWords (n : Nat) (ws : List Word) : frameBits (pixelsOfWords n ws) =
    (List.range n).flatMap fun k => (List.range 24).map fun j => (ws[k]?.getD 0).getLsbD (23 - j) := by
  simp only [frameBits, pixelsOfWords, List.flatMap_map, pixelBits_rgbField]

/-- SEND_PIXEL with `IE = 0` is the primitive send of its 24 bits (40_led_encoder.md R104). -/
theorem exec_sendPixel_of_masked (ch : BitVec 4) (p : Rgb) {s : State} (h : s.ie = false) :
    exec (.sendPixel ch p) s = .next { s with
      wire := s.wire.modify ch.toNat (fun old => old ++ [pixelBits p])
      line := s.line.set ch.toNat false
      cp := s.cp + 1 } :=
  primitiveSend_of_masked ch h (List.cons_ne_nil _ _)

/-- Everything FRAME does (40_led_encoder.md R105), as a run of the command. -/
theorem exec_frame (ch : BitVec 4) (px : List Rgb) (s : State) : exec (.frame ch px) s = .next { s with
    ie := true
    wire := if px = [] then s.wire else s.wire.modify ch.toNat (fun old => old ++ [frameBits px])
    line := if px = [] then s.line else s.line.set ch.toNat false
    cp := s.cp + 1 + px.length } := by
  rw [Nat.add_assoc]
  exact execFrame_eq ch px s

/-- FRAME on the colours of the words after its header sends those words' bits (40_led_encoder.md R105). -/
theorem exec_frame_pixelsOfWords (ch : BitVec 4) (n : Nat) (ws : List Word) (s : State) :
    exec (.frame ch (pixelsOfWords n ws)) s = .next { s with
      ie := true
      wire := if n = 0 then s.wire else s.wire.modify ch.toNat (fun old => old ++
        [(List.range n).flatMap fun k => (List.range 24).map fun j => (ws[k]?.getD 0).getLsbD (23 - j)])
      line := if n = 0 then s.line else s.line.set ch.toNat false
      cp := s.cp + 1 + n } := by
  simp only [exec_frame, frameBits_pixelsOfWords, pixelsOfWords_eq_nil_iff, length_pixelsOfWords]

theorem burstWave_cons (cfg : Config.Params) (b : Bit) (bits : Burst) :
    burstWave cfg (b :: bits) = (true, highTime cfg b) :: (false, lowTime cfg b) :: burstWave cfg bits := rfl

theorem length_burstWave (cfg : Config.Params) (bits : Burst) : (burstWave cfg bits).length = 2 * bits.length := by
  induction bits with
  | nil => rfl
  | cons b bits ih => simp only [burstWave_cons, List.length_cons, ih]; omega

/-- The two phases of a burst's `k`-th bit (40_led_encoder.md R100, R101). -/
theorem burstWave_getElem? (cfg : Config.Params) {bits : Burst} {k : Nat} {b : Bit} (h : bits[k]? = some b) :
    (burstWave cfg bits)[2 * k]? = some (true, highTime cfg b) ∧
      (burstWave cfg bits)[2 * k + 1]? = some (false, lowTime cfg b) := by
  induction bits generalizing k with
  | nil => simp at h
  | cons c bits ih =>
    cases k with
    | zero => cases h; exact ⟨rfl, rfl⟩
    | succ k => exact ih h

end Sys2Proof.Laws
end

section
/-! The statements of 40_led_encoder.md: the word by its decoder, the effect by the burst it sends. -/

namespace Sys2Proof.Laws

open Sys2Proof.Machine

/-- Settles O22: SEND_BIT is the primitive send of its one bit. -/
theorem sendBitSendsOneBit : Obligations.SendBitSendsOneBit :=
  ⟨fun _ _ hm hop => step_of_decodeWords_iff hm (decodeWords_sendBit_iff _ hop),
    fun _ ch _ hie => primitiveSend_of_unmasked ch _ hie,
    fun _ ch v hie => primitiveSend_of_masked ch hie (List.cons_ne_nil v [])⟩

/-- Settles O23: SEND_BYTE is the primitive send of its eight bits. -/
theorem sendByteSendsEightBitsMsbFirst : Obligations.SendByteSendsEightBitsMsbFirst :=
  ⟨fun _ _ hm hop => step_of_decodeWords_iff hm (decodeWords_sendByte_iff _ hop),
    fun _ ch _ hie => primitiveSend_of_unmasked ch _ hie,
    fun _ ch _ hie => primitiveSend_of_masked ch hie (List.cons_ne_nil _ _)⟩

/-- Settles O24: SEND_PIXEL is the primitive send of its 24 bits, which are the word's bits 23 down to 0. -/
theorem sendPixelSendsTwentyFourBits : Obligations.SendPixelSendsTwentyFourBits := by
  refine ⟨fun s w hm hop => ?_, fun _ ch _ hie => primitiveSend_of_unmasked ch _ hie,
    fun _ ch p hie => exec_sendPixel_of_masked ch p hie⟩
  have hstep := step_of_decodeWords_iff hm (decodeWords_sendPixel_iff _ hop)
  change if (chField w).toNat < s.cfg.nch then _ else _
  split_ifs at hstep ⊢ with hch
  · refine ⟨hstep, fun hie => ?_⟩
    rw [hstep, exec_sendPixel_of_masked _ _ (by rwa [takeEvent_ie]), pixelBits_rgbField, takeEvent_wire,
      takeEvent_line, takeEvent_cp]
    rfl
  · exact hstep

/-- Settles O25: the words after the header are the stream's, and FRAME sends their colours. -/
theorem frameSendsItsDataWordsAsOneBurst : Obligations.FrameSendsItsDataWordsAsOneBurst := by
  refine ⟨fun s w hm hop => ?_, fun s ch px => ?_⟩
  · intro ch n
    have hstep := step_of_decodeWords_iff hm (decodeWords_frame_iff _ hop)
    have hpresent : countField w ≤ (s.stream.drop (s.cp + 1)).length ↔ s.cp + n < s.stream.length := by
      obtain ⟨hlt, -⟩ := List.getElem?_eq_some_iff.mp hm.word
      rw [List.length_drop, show countField w = n from rfl]
      omega
    have hread : ∀ k, (s.stream.drop (s.cp + 1))[k]? = memRead s (s.cp + 1 + k) := fun k => List.getElem?_drop
    simp only [exec_frame_pixelsOfWords, hpresent, hread, takeEvent_wire, takeEvent_line, takeEvent_cp] at hstep
    exact hstep
  · exact exec_frame ch px s

/-- Settles O27: every symbol is its two phases, so the `k`-th bit's stand at `2k` and `2k + 1`. -/
theorem burstWaveIsItsSymbolsBackToBack : Obligations.BurstWaveIsItsSymbolsBackToBack :=
  fun cfg bits _ _ hbit => ⟨length_burstWave cfg bits, burstWave_getElem? cfg hbit⟩

end Sys2Proof.Laws
end

section
/-! MAIN's step on a word of a format Z opcode, whose bits below the opcode are all reserved (30_encoding.md R71, R79). -/

namespace Sys2Proof.Laws

open Sys2Proof.Machine

/-- Opcode `op` is in format Z and means the command `i` (30_encoding.md R71). -/
def DecodesInFormatZ (op : BitVec 4) (i : Instr) : Prop :=
  ∀ nch w rest, opField w = op → decodeWords nch w rest = decodeZ w i

/-- A word of a format Z opcode is run when its reserved bits are zero and raises ILLEGAL_CMD otherwise. -/
theorem step_of_decodesInFormatZ {op : BitVec 4} {i : Instr} (hz : DecodesInFormatZ op i) {s : State} {w : Word}
    (hm : s.MainAt w) (hop : opField w = op) :
    if w.extractLsb' 0 28 = 0 then step s = exec i s.takeEvent
    else ∃ t, step s = .next t ∧ FaultsInto s.takeEvent .illegalCmd w t :=
  step_of_decodeWords_iff hm fun j => by rw [hz _ _ _ hop, decodeZ_eq_ok]

theorem runsAs_of_decodesInFormatZ {op : BitVec 4} {i : Instr} (hz : DecodesInFormatZ op i) {w : Word}
    (hop : opField w = op) (hreserved : w.extractLsb' 0 28 = 0) : RunsAs w i := fun _ hm => by
  simpa only [if_pos hreserved] using step_of_decodesInFormatZ hz hm hop

theorem raisesIllegal_of_decodesInFormatZ {op : BitVec 4} {i : Instr} (hz : DecodesInFormatZ op i) {w : Word}
    (hop : opField w = op) (hreserved : w.extractLsb' 0 28 ≠ 0) : RaisesIllegal w := fun _ hm => by
  simpa only [if_neg hreserved] using step_of_decodesInFormatZ hz hm hop

theorem decodesInFormatZ_irqOff : DecodesInFormatZ 0x5 .irqOff := fun _ _ _ hop => by rw [decodeWords, hop]; rfl

theorem decodesInFormatZ_irqOn : DecodesInFormatZ 0x6 .irqOn := fun _ _ _ hop => by rw [decodeWords, hop]; rfl

end Sys2Proof.Laws
end

section
/-! The statements of 41_irq_mask.md: the word by its format, the effect by what a run of the command writes. -/

namespace Sys2Proof.Laws

open Sys2Proof.Machine

/-- Everything IRQ_OFF does (41_irq_mask.md R120), as a run of the command. -/
theorem exec_irqOff (s : State) : exec .irqOff s = .next { s with ie := false, cp := s.cp + 1 } := rfl

/-- Everything IRQ_ON does (41_irq_mask.md R121), as a run of the command. -/
theorem exec_irqOn (s : State) : exec .irqOn s = .next { s with ie := true, cp := s.cp + 1 } := rfl

/-- Settles O29: IRQ_OFF is the format Z command of opcode 5. -/
theorem irqOffClearsTheEnable : Obligations.IrqOffClearsTheEnable :=
  ⟨runsAs_of_decodesInFormatZ decodesInFormatZ_irqOff (by decide) (by decide),
    fun _ hop hreserved => raisesIllegal_of_decodesInFormatZ decodesInFormatZ_irqOff hop hreserved, exec_irqOff⟩

/-- Settles O30: IRQ_ON is the format Z command of opcode 6. -/
theorem irqOnSetsTheEnable : Obligations.IrqOnSetsTheEnable :=
  ⟨runsAs_of_decodesInFormatZ decodesInFormatZ_irqOn (by decide) (by decide),
    fun _ hop hreserved => raisesIllegal_of_decodesInFormatZ decodesInFormatZ_irqOn hop hreserved, exec_irqOn⟩

end Sys2Proof.Laws
end

section
/-! The sampler's commands: their words, and when each goes on, faults or holds (42_sampler.md R130 to R133). -/

namespace Sys2Proof.Laws

open Sys2Proof.Machine

theorem decodesInFormatZ_strobeStart : DecodesInFormatZ 0x7 .strobeStart := fun _ _ _ hop => by
  rw [decodeWords, hop]; rfl

theorem decodesInFormatZ_isReady : DecodesInFormatZ 0x8 .isReady := fun _ _ _ hop => by rw [decodeWords, hop]; rfl

theorem decodesInFormatZ_takeSample : DecodesInFormatZ 0x9 .takeSample := fun _ _ _ hop => by
  rw [decodeWords, hop]; rfl

theorem decodesInFormatZ_waitReady : DecodesInFormatZ 0xA .waitReady := fun _ _ _ hop => by
  rw [decodeWords, hop]; rfl

/-- A flag is answered as 1 or 0 (20_memory.md R57). -/
theorem flagWord_eq_ite (b : Bool) : flagWord b = if b then 1 else 0 := by cases b <;> rfl

/-- An 8-bit value is answered as its number (20_memory.md R57). -/
theorem byteWord_eq_ofNat (v : Byte) : byteWord v = BitVec.ofNat 32 v.toNat := (BitVec.ofNat_toNat 32 v).symm

/-- Where WAIT_READY faults (42_sampler.md R133). -/
theorem waitIsHopeless_eq_true_iff (s : State) :
    waitIsHopeless s = true ↔ s.ie = false ∨ s.adcBusy = false ∧ s.adcPend = false := by
  simp [waitIsHopeless]

/-- Where WAIT_READY holds (42_sampler.md R133). -/
theorem waitIsHopeless_eq_false_iff (s : State) :
    waitIsHopeless s = false ↔ s.ie = true ∧ (s.adcBusy = true ∨ s.adcPend = true) := by
  simp [waitIsHopeless, or_iff_not_imp_left]

/-- A WAIT_READY that some agent's step can still end leaves the state as it is (42_sampler.md R133). -/
theorem exec_waitReady_of_holding {s : State} (notReady : s.ready = false) (enabled : s.ie = true)
    (converting : s.adcBusy = true ∨ s.adcPend = true) : exec .waitReady s = .next s :=
  (execWaitReady_next s s).mpr
    (.inr (.inr ⟨notReady, (waitIsHopeless_eq_false_iff s).mpr ⟨enabled, converting⟩, rfl⟩))

end Sys2Proof.Laws
end

section
/-! The mailbox and the deadlock over the moves of the agents other than MAIN (42_sampler.md R133, R139). -/

namespace Sys2Proof.Laws

open Sys2Proof.Machine

/-- The tick handler is not one of the sampler's agents (43_animation.md R154). -/
theorem tickHandler_sampler (s : State) :
    (tickHandler s).sample = s.sample ∧ (tickHandler s).ready = s.ready ∧ (tickHandler s).ie = s.ie ∧
      (tickHandler s).adcBusy = s.adcBusy ∧ (tickHandler s).adcPend = s.adcPend := by
  rw [tickHandler_frame]
  exact ⟨rfl, rfl, rfl, rfl, rfl⟩

/-- Of the agents other than MAIN only the completion handler writes the mailbox (42_sampler.md R139). -/
theorem SideMove.mailbox {s t : State} {e : Event} (move : SideMove s e t) :
    (t.sample = s.sample ∧ t.ready = s.ready) ∨ (e = .adcIsr ∧ t.sample = s.adcData ∧ t.ready = true) := by
  cases move with
  | rests => exact .inl ⟨rfl, rfl⟩
  | converts => exact .inl ⟨rfl, rfl⟩
  | publishes => exact .inr ⟨rfl, rfl, rfl⟩
  | ticks => exact .inl ⟨rfl, rfl⟩
  | turnsWheel =>
    obtain ⟨hsample, hready, -⟩ := tickHandler_sampler s
    exact .inl ⟨hsample, hready⟩

/-- Where WAIT_READY would fault, no agent other than MAIN can act on `READY`, nor bring a conversion about
(42_sampler.md R133): the converter needs one in progress, so interrupts were masked, and the completion handler needs
a pending one and interrupts enabled. -/
theorem SideMove.keeps_deadlock {s t : State} {e : Event} (move : SideMove s e t) (notReady : s.ready = false)
    (deadlock : s.ie = false ∨ s.adcBusy = false ∧ s.adcPend = false) :
    t.ready = false ∧ (t.ie = false ∨ t.adcBusy = false ∧ t.adcPend = false) := by
  cases move with
  | rests => exact ⟨notReady, deadlock⟩
  | converts v busy => exact ⟨notReady, .inl (by simpa [busy] using deadlock)⟩
  | publishes enabled pending => simp [enabled, pending] at deadlock
  | ticks => exact ⟨notReady, deadlock⟩
  | turnsWheel =>
    obtain ⟨-, hready, hie, hbusy, hpend⟩ := tickHandler_sampler s
    rw [hready, hie, hbusy, hpend]
    exact ⟨notReady, deadlock⟩

end Sys2Proof.Laws
end

section
/-! The statements of 42_sampler.md on one command and on one step. -/

namespace Sys2Proof.Laws

open Sys2Proof.Machine

/-- Settles O33: STROBE_START is the format Z command of opcode 7, and `ADC_BUSY` decides between its two outcomes. -/
theorem strobeStartPulsesAndStartsAConversion : Obligations.StrobeStartPulsesAndStartsAConversion :=
  ⟨runsAs_of_decodesInFormatZ decodesInFormatZ_strobeStart (by decide) (by decide),
    fun _ hop hreserved => raisesIllegal_of_decodesInFormatZ decodesInFormatZ_strobeStart hop hreserved,
    fun s hbusy => (execStrobeStart_next s _).mpr (.inl ⟨hbusy, rfl⟩),
    fun s hbusy => (execStrobeStart_next s _).mpr (.inr ⟨hbusy, rfl⟩)⟩

/-- Settles O34: IS_READY is the format Z command of opcode 8, and its answer is the flag as a word. -/
theorem isReadyReportsTheFlag : Obligations.IsReadyReportsTheFlag := by
  refine ⟨runsAs_of_decodesInFormatZ decodesInFormatZ_isReady (by decide) (by decide),
    fun _ hop hreserved => raisesIllegal_of_decodesInFormatZ decodesInFormatZ_isReady hop hreserved, fun s => ?_⟩
  rw [← flagWord_eq_ite]
  rfl

/-- Settles O35: TAKE_SAMPLE is the format Z command of opcode 9, and `READY` decides between its two outcomes. -/
theorem takeSampleReturnsAndClears : Obligations.TakeSampleReturnsAndClears := by
  refine ⟨runsAs_of_decodesInFormatZ decodesInFormatZ_takeSample (by decide) (by decide),
    fun _ hop hreserved => raisesIllegal_of_decodesInFormatZ decodesInFormatZ_takeSample hop hreserved,
    fun s hready => (execTakeSample_next s _).mpr (.inl ⟨hready, rfl⟩), fun s hready => ?_⟩
  rw [← byteWord_eq_ofNat]
  exact (execTakeSample_next s _).mpr (.inr ⟨hready, rfl⟩)

/-- Settles O36: WAIT_READY is the format Z command of opcode 0xA; with `READY` 0 it faults exactly where the wait is
hopeless. -/
theorem waitReadyPassesFaultsOrHolds : Obligations.WaitReadyPassesFaultsOrHolds :=
  ⟨runsAs_of_decodesInFormatZ decodesInFormatZ_waitReady (by decide) (by decide),
    fun _ hop hreserved => raisesIllegal_of_decodesInFormatZ decodesInFormatZ_waitReady hop hreserved,
    fun s hready => (execWaitReady_next s _).mpr (.inl ⟨hready, rfl⟩),
    fun s hready hdeadlock => (execWaitReady_next s _).mpr
      (.inr (.inl ⟨hready, (waitIsHopeless_eq_true_iff s).mpr hdeadlock, rfl⟩)),
    fun _ => exec_waitReady_of_holding⟩

/-- Settles O37: a step of an agent other than MAIN is a side move, and none of them ends the deadlock. -/
theorem deadlockedWaitCannotBeEnded : Obligations.DeadlockedWaitCannotBeEnded := by
  intro s t notReady deadlock hstep hmain hn
  obtain ⟨-, -, hmoved⟩ := moved_of_step hstep hn
  cases hmoved with
  | completes _ main => exact absurd main hmain
  | faults _ main => exact absurd main hmain
  | side move => exact move.keeps_deadlock (by simpa using notReady) (by simpa using deadlock)

/-- Settles O38: the converter is enabled exactly while a conversion is in progress. -/
theorem conversionCompletes : Obligations.ConversionCompletes := by
  intro s v hm
  rw [step_of_moves s _ hm, turn, adcTurn, adcReady, takeEvent_adcBusy]
  exact ⟨fun hbusy => by rw [if_pos hbusy]; rfl, fun hbusy => by simp [hbusy]⟩

/-- Settles O39: the completion handler is enabled exactly while a completion is pending and interrupts are enabled. -/
theorem completionHandlerPublishesTheSample : Obligations.CompletionHandlerPublishesTheSample := by
  intro s hm
  rw [step_of_moves s _ hm, turn, adcIsrTurn, adcIsrReady, takeEvent_ie, takeEvent_adcPend]
  refine ⟨fun ⟨hie, hpend⟩ => ?_, fun hmasked => ?_⟩
  · rw [hie, hpend, ← takeEvent_adcData s]
    rfl
  · obtain hie | hpend := hmasked
    · simp [hie]
    · simp [hpend]

/-- Settles O40: of the moves of a step only the completion handler's writes `SAMPLE` or sets `READY`, and only a
completed TAKE_SAMPLE clears it. -/
theorem mailboxHasOneProducerOneConsumer : Obligations.MailboxHasOneProducerOneConsumer := by
  intro s t hstep hn
  obtain ⟨-, -, hmoved⟩ := moved_of_step hstep hn
  cases hmoved with
  | completes i main decoded =>
    obtain hkept | ⟨rfl, hcleared⟩ := commandEffect_ready i s.takeEvent
    · exact ⟨by simp [hkept], fun hset hunset => by simp [hkept, hset] at hunset⟩
    · have hresp : (commandEffect .takeSample s.takeEvent).resp = byteWord s.takeEvent.sample := rfl
      exact ⟨by simp [hcleared], fun _ _ => ⟨main, decoded, by simp [hresp, byteWord_eq_ofNat]⟩⟩
  | faults => exact ⟨by simp, fun hset hunset => by simp [hset] at hunset⟩
  | side move =>
    obtain ⟨hsample, hready⟩ | ⟨he, hsample, hready⟩ := move.mailbox
    · exact ⟨by simp [hsample, hready], fun hset hunset => by simp [hready, hset] at hunset⟩
    · exact ⟨fun _ => ⟨he, by simpa using hsample, hready⟩, by simp [hready]⟩

end Sys2Proof.Laws
end

section
/-! A WAIT_READY that holds, along a run (42_sampler.md R133, R136, R137). -/

namespace Sys2Proof.Laws

open Sys2Proof.Machine

/-- MAIN of a running block stands at a WAIT_READY that holds: no sample yet, interrupts enabled, and a conversion in
progress or pending (42_sampler.md R133). -/
structure HoldsAtWait (s : State) : Prop where
  admitted : s.cfg.admitted = true
  running : s.halt = false
  enabled : s.ie = true
  notReady : s.ready = false
  converting : s.adcBusy = true ∨ s.adcPend = true
  atWait : decode s.cfg.nch s.stream s.cp = .ok .waitReady

theorem HoldsAtWait.moves {s : State} (h : HoldsAtWait s) {e : Event} (he : s.nextEvent = e) : s.Moves e :=
  ⟨h.admitted, h.running, he⟩

theorem HoldsAtWait.takeEvent {s : State} (h : HoldsAtWait s) : HoldsAtWait s.takeEvent := by
  obtain ⟨_, _, _, _, _, _⟩ := h
  constructor <;> simpa

/-- While MAIN holds, a step that is no reset is at most the guarded step of another agent. -/
theorem HoldsAtWait.step_sideMove {s : State} (h : HoldsAtWait s) (hn : ∀ d, s.nextEvent ≠ .reset d) :
    ∃ t, step s = .next t ∧ SideMove s.takeEvent s.nextEvent t := by
  have hstep := step_of_moves s _ (h.moves rfl)
  cases he : s.nextEvent with
  | main =>
    have h' := h.takeEvent
    refine ⟨s.takeEvent, ?_, .rests _⟩
    rw [stepRunsTheDecodedCommand s _ (h.moves he) h.atWait]
    exact exec_waitReady_of_holding h'.notReady h'.enabled h'.converting
  | reset d => exact absurd he (hn d)
  | adc v => rw [he] at hstep; exact ⟨_, hstep, sideMove_adcTurn v _⟩
  | adcIsr => rw [he] at hstep; exact ⟨_, hstep, sideMove_adcIsrTurn _⟩
  | timer => rw [he] at hstep; exact ⟨_, hstep, sideMove_timerTurn _⟩
  | tickIsr => rw [he] at hstep; exact ⟨_, hstep, sideMove_tickIsrTurn _⟩

/-- Another agent's step leaves MAIN at its WAIT_READY, which goes on holding unless the sample has come. -/
theorem SideMove.holdsAtWait {s t : State} {e : Event} (move : SideMove s e t) (h : HoldsAtWait s) :
    t.cp = s.cp ∧ t.halt = false ∧ (t.ready = false → HoldsAtWait t) := by
  cases move with
  | rests => exact ⟨rfl, h.running, fun _ => h⟩
  | converts => exact ⟨rfl, h.running, fun _ => { h with converting := .inr rfl }⟩
  | publishes => exact ⟨rfl, h.running, nofun⟩
  | ticks => exact ⟨rfl, h.running, fun _ => { h with }⟩
  | turnsWheel => rw [tickHandler_frame]; exact ⟨rfl, h.running, fun _ => { h with }⟩

/-- No agent's step takes a pending completion away without setting `READY` (42_sampler.md R136, R137). -/
theorem SideMove.adcPend_or_ready {s t : State} {e : Event} (move : SideMove s e t) (pending : s.adcPend = true) :
    t.adcPend = true ∨ t.ready = true := by
  cases move with
  | rests => exact .inl pending
  | converts => exact .inl rfl
  | publishes => exact .inr rfl
  | ticks => exact .inl pending
  | turnsWheel => rw [tickHandler_frame]; exact .inl pending

/-- The next state of a run in which MAIN holds. -/
theorem HoldsAtWait.run_step {r : Nat → State} (run : IsRun r) (noReset : NoReset r) {n : Nat}
    (h : HoldsAtWait (r n)) :
    step (r n) = .next (r (n + 1)) ∧ SideMove (r n).takeEvent (r n).nextEvent (r (n + 1)) := by
  obtain ⟨t, hstep, move⟩ := h.step_sideMove (noReset n)
  obtain hnext | ⟨hstuck, -⟩ := run n
  · cases hstep.symm.trans hnext
    exact ⟨hstep, move⟩
  · exact absurd hstep (hstuck t)

/-- Up to and including the state in which `READY` comes, MAIN stands at its WAIT_READY and no fault is entered. -/
theorem waits_until_ready {r : Nat → State} (run : IsRun r) (noReset : NoReset r) (h0 : HoldsAtWait (r 0)) {n : Nat}
    (notReady : ∀ m < n, (r m).ready = false) :
    (r n).cp = (r 0).cp ∧ (r n).halt = false ∧ ((r n).ready = false → HoldsAtWait (r n)) := by
  induction n with
  | zero => exact ⟨rfl, h0.running, fun _ => h0⟩
  | succ n ih =>
    obtain ⟨hcp, -, hholds⟩ := ih fun m hm => notReady m (Nat.lt_succ_of_lt hm)
    have h := hholds (notReady n (Nat.lt_succ_self n))
    obtain ⟨-, move⟩ := h.run_step run noReset
    obtain ⟨hcp', hrest⟩ := move.holdsAtWait h.takeEvent
    exact ⟨by rw [hcp', takeEvent_cp, hcp], hrest⟩

/-- A completion that is pending stays so while MAIN holds. -/
theorem adcPend_stays_of_holds {r : Nat → State} (run : IsRun r) (noReset : NoReset r)
    (holds : ∀ n, HoldsAtWait (r n)) {n m : Nat} (pending : (r n).adcPend = true) (hm : n ≤ m) :
    (r m).adcPend = true := by
  induction m, hm using Nat.le_induction with
  | base => exact pending
  | succ m _ ih =>
    obtain ⟨-, move⟩ := (holds m).run_step run noReset
    obtain hpend | hready := move.adcPend_or_ready (by simpa using ih)
    · exact hpend
    · simp [(holds (m + 1)).notReady] at hready

/-- The converter's turn, as an event. -/
theorem event_of_adc_turn {e : Event} (h : agentOfEvent e = some .adc) : ∃ v, e = .adc v := by
  cases e <;> simp [agentOfEvent] at h ⊢

/-- The completion handler's turn, as an event. -/
theorem event_of_adcIsr_turn {e : Event} (h : agentOfEvent e = some .adcIsr) : e = .adcIsr := by
  cases e <;> simp [agentOfEvent] at h ⊢

/-- If MAIN held for ever, a completion would come to be pending: otherwise the conversion is in progress for ever, so
the converter's turn comes (42_sampler.md R136). -/
theorem exists_adcPend_of_holds {r : Nat → State} (run : IsRun r) (noReset : NoReset r) (fair : WeaklyFair .adc r)
    (holds : ∀ n, HoldsAtWait (r n)) : ∃ n, (r n).adcPend = true := by
  by_contra hnone
  have hbusy (n : Nat) : (r n).adcBusy = true := (holds n).converting.resolve_right fun hpend => hnone ⟨n, hpend⟩
  have henabled (n : Nat) : enabled .adc (r n) = true := by simp [enabled, adcReady, (holds n).running, hbusy n]
  obtain ⟨m, -, hturn⟩ := fair 0 fun m _ => henabled m
  obtain ⟨v, he⟩ := event_of_adc_turn hturn
  obtain ⟨hstep, -⟩ := (holds m).run_step run noReset
  obtain ⟨hcompletes, -⟩ := conversionCompletes (r m) v ((holds m).moves he)
  exact hnone ⟨m + 1, by rw [Host.Outcome.next.inj (hstep.symm.trans (hcompletes (hbusy m)))]⟩

/-- In a fair run MAIN does not hold for ever: the pending completion keeps its handler enabled, so the handler's turn
comes and sets `READY` (42_sampler.md R137). -/
theorem not_holds_forever {r : Nat → State} (run : IsRun r) (noReset : NoReset r) (fairAdc : WeaklyFair .adc r)
    (fairIsr : WeaklyFair .adcIsr r) : ¬ ∀ n, HoldsAtWait (r n) := by
  intro holds
  obtain ⟨n, hpend⟩ := exists_adcPend_of_holds run noReset fairAdc holds
  have hstays (m : Nat) (hm : n ≤ m) := adcPend_stays_of_holds run noReset holds hpend hm
  obtain ⟨m, hm, hturn⟩ := fairIsr n fun m hm => by
    simp [enabled, adcIsrReady, (holds m).running, (holds m).enabled, hstays m hm]
  have he := event_of_adcIsr_turn hturn
  obtain ⟨hstep, -⟩ := (holds m).run_step run noReset
  obtain ⟨hpublishes, -⟩ := completionHandlerPublishesTheSample (r m) ((holds m).moves he)
  have hready : (r (m + 1)).ready = true := by
    rw [Host.Outcome.next.inj (hstep.symm.trans (hpublishes ⟨(holds m).enabled, hstays m hm⟩))]
  simp [(holds (m + 1)).notReady] at hready

end Sys2Proof.Laws
end

section
/-! The statement of 42_sampler.md on fair runs. -/

namespace Sys2Proof.Laws

open Sys2Proof.Machine

/-- Settles O41: MAIN holds until `READY` comes, and in a fair run it cannot hold for ever; the state asked for is the
first with `READY` 1. -/
theorem holdingWaitGetsItsSampleInAFairRun : Obligations.HoldingWaitGetsItsSampleInAFairRun := by
  rintro r ⟨run, fairIsr, fairAdc⟩ noReset admitted noStall running enabled notReady converting atWait
  have h0 : HoldsAtWait (r 0) := ⟨admitted, running, enabled, notReady, converting, atWait⟩
  have hcomes : ∃ n, (r n).ready = true := by
    by_contra hnever
    have hno (n : Nat) : (r n).ready = false := Bool.eq_false_iff.mpr fun hready => hnever ⟨n, hready⟩
    refine not_holds_forever run noReset (fairAdc noStall) fairIsr fun n => ?_
    obtain ⟨-, -, hholds⟩ := waits_until_ready run noReset h0 (n := n) fun m _ => hno m
    exact hholds (hno n)
  have hbefore (m : Nat) (hm : m < Nat.find hcomes) : (r m).ready = false :=
    Bool.eq_false_iff.mpr (Nat.find_min hcomes hm)
  obtain ⟨hcp, hhalt, -⟩ := waits_until_ready run noReset h0 hbefore
  refine ⟨Nat.find hcomes, Nat.find_spec hcomes, hcp, hhalt, fun m hm => ⟨hbefore m hm, ?_⟩⟩
  obtain ⟨hcp, -⟩ := waits_until_ready run noReset h0 (n := m) fun k hk => hbefore k (hk.trans hm)
  exact hcp

end Sys2Proof.Laws
end

section
/-! One step of the colour wheel from any state (43_animation.md R154, R155). -/

namespace Sys2Proof.Laws

open Sys2Proof.Machine

@[simp] theorem rain_takeEvent (s : State) (c : Colour) : s.takeEvent.rain c = s.rain c := by
  cases c <;> simp [State.rain]

/-- The decreasing channel stops at 0 (43_animation.md R155). -/
theorem rain_adv_decreasing (s : State) : ((adv s).rain s.rainPh).toNat =
    (s.rain s.rainPh).toNat - min s.cfg.rainStep (s.rain s.rainPh).toNat := by
  rw [rain_adv, if_neg (next_ne s.rainPh).symm, if_pos rfl, BitVec.toNat_ofNat, wheelDec]
  omega

/-- The increasing channel stops at BRIGHTNESS, which 8 bits hold (43_animation.md R155). -/
theorem rain_adv_increasing (s : State) (hB : s.cfg.brightness ≤ 255) : ((adv s).rain s.rainPh.next).toNat =
    (s.rain s.rainPh.next).toNat + wheelInc s.cfg.rainStep s.cfg.brightness (s.rain s.rainPh.next).toNat := by
  rw [rain_adv, if_pos rfl, BitVec.toNat_ofNat, wheelInc]
  split <;> omega

/-- The third channel rests (43_animation.md R155). -/
theorem rain_adv_third (s : State) : (adv s).rain s.rainPh.next.next = s.rain s.rainPh.next.next := by
  have hother : s.rainPh.next.next ≠ s.rainPh := by cases s.rainPh <;> decide
  rw [rain_adv, if_neg (next_ne s.rainPh.next), if_neg hother]

/-- The phase moves on exactly when the decreasing channel has come to 0 (43_animation.md R155). -/
theorem rainPh_adv_eq_ite (s : State) :
    (adv s).rainPh = if ((adv s).rain s.rainPh).toNat = 0 then s.rainPh.next else s.rainPh := by
  rw [rainPh_adv, rain_adv_decreasing, wheelDec]

/-- The tick handler moves the rainbow registers as one step of the wheel (43_animation.md R154, R155). -/
theorem tickHandler_moves_wheel (s : State) (hB : s.cfg.brightness ≤ 255) :
    ((tickHandler s).rain s.rainPh).toNat =
        (s.rain s.rainPh).toNat - min s.cfg.rainStep (s.rain s.rainPh).toNat ∧
      ((tickHandler s).rain s.rainPh.next).toNat = (s.rain s.rainPh.next).toNat +
        wheelInc s.cfg.rainStep s.cfg.brightness (s.rain s.rainPh.next).toNat ∧
      (tickHandler s).rain s.rainPh.next.next = s.rain s.rainPh.next.next ∧
      (tickHandler s).rainPh =
        if ((tickHandler s).rain s.rainPh).toNat = 0 then s.rainPh.next else s.rainPh :=
  let taken : State := { s with tickPend := false }
  ⟨rain_adv_decreasing taken, rain_adv_increasing taken hB, rain_adv_third taken, rainPh_adv_eq_ite taken⟩

end Sys2Proof.Laws
end

section
/-! The positions of the colour wheel, and its way from the seed round to the seed (43_animation.md R152, R155, R156). -/

namespace Sys2Proof.Laws

open Sys2Proof.Machine

/-- The wheel is in phase `d` with the increasing channel at `n`. The wheel invariant fixes the other two channels, so
these two tell the wheel's whole position (10_state.md R39). -/
structure WheelAt (d : Colour) (n : Nat) (s : State) : Prop extends s.WheelInv where
  phase : s.rainPh = d
  increasing : (s.rain d.next).toNat = n

theorem WheelAt.decreasing {d : Colour} {n : Nat} {s : State} (h : WheelAt d n s) :
    (s.rain d).toNat = s.cfg.brightness - n := by
  obtain ⟨⟨-, hsum, -⟩, rfl, rfl⟩ := h
  omega

theorem WheelAt.third_zero {d : Colour} {n : Nat} {s : State} (h : WheelAt d n s) : s.rain d.next.next = 0 := by
  obtain ⟨⟨-, -, hthird⟩, rfl, -⟩ := h
  exact hthird

theorem seed_wheelAt (s : State) (hB : s.cfg.brightness ≤ 255) : WheelAt .green 0 (seed s) :=
  ⟨seed_wheelInv s hB, rfl, rfl⟩

/-- While the decreasing channel is above the step, a tick moves both channels by it (43_animation.md R155). -/
theorem WheelAt.adv_within {d : Colour} {n : Nat} {s : State} (h : WheelAt d n s) (hB : s.cfg.brightness ≤ 255)
    (hlt : n + s.cfg.rainStep < s.cfg.brightness) : WheelAt d (n + s.cfg.rainStep) (adv s) := by
  have hold := h.decreasing
  obtain ⟨hwheel, rfl, rfl⟩ := h
  have hdec := rain_adv_decreasing s
  have hphase : (adv s).rainPh = s.rainPh := by
    rw [rainPh_adv_eq_ite, if_neg (by omega)]
  refine ⟨adv_wheelInv hwheel hB, hphase, ?_⟩
  rw [rain_adv_increasing s hB, wheelInc, if_pos (by omega)]
  omega

/-- The tick that brings the decreasing channel to 0 starts the next phase (43_animation.md R155). -/
theorem WheelAt.adv_across {d : Colour} {n : Nat} {s : State} (h : WheelAt d n s) (hB : s.cfg.brightness ≤ 255)
    (hge : s.cfg.brightness ≤ n + s.cfg.rainStep) : WheelAt d.next 0 (adv s) := by
  have hold := h.decreasing
  have hthird := h.third_zero
  obtain ⟨hwheel, rfl, -⟩ := h
  have hdec := rain_adv_decreasing s
  have hphase : (adv s).rainPh = s.rainPh.next := by
    rw [rainPh_adv_eq_ite, if_pos (by omega)]
  exact ⟨adv_wheelInv hwheel hB, hphase, by rw [rain_adv_third, hthird]; rfl⟩

/-- Any number of ticks moves the rainbow registers only. -/
theorem iterate_adv_frame (k : Nat) (s : State) :
    adv^[k] s = { s with
      rainR := (adv^[k] s).rainR, rainG := (adv^[k] s).rainG, rainB := (adv^[k] s).rainB
      rainPh := (adv^[k] s).rainPh } := by
  induction k generalizing s with
  | zero => rfl
  | succ k ih => rw [Function.iterate_succ_apply, ih (adv s), adv_frame s]

@[simp] theorem iterate_adv_cfg (k : Nat) (s : State) : (adv^[k] s).cfg = s.cfg := by rw [iterate_adv_frame]

theorem iterate_adv_wheelInv {s : State} (h : s.WheelInv) (hB : s.cfg.brightness ≤ 255) (k : Nat) :
    (adv^[k] s).WheelInv := by
  induction k with
  | zero => exact h
  | succ k ih =>
    rw [Function.iterate_succ_apply']
    exact adv_wheelInv ih (by simpa using hB)

/-- Within a phase the increasing channel grows by the step with every tick (43_animation.md R156). -/
theorem WheelAt.iterate_within {d : Colour} {m k : Nat} {s : State} (h : WheelAt d 0 (adv^[m] s))
    (hB : s.cfg.brightness ≤ 255) (hk : k * s.cfg.rainStep < s.cfg.brightness) :
    WheelAt d (k * s.cfg.rainStep) (adv^[m + k] s) := by
  induction k with
  | zero => simpa using h
  | succ k ih =>
    rw [Nat.succ_mul] at hk ⊢
    have hwithin := (ih (by omega)).adv_within (by simpa using hB)
    rw [iterate_adv_cfg] at hwithin
    rw [← Nat.add_assoc, Function.iterate_succ_apply']
    exact hwithin hk

/-- The number of ticks in a phase, `ceil(B / S)` (43_animation.md R156). -/
def phaseTicks (cfg : Config.Params) : Nat := (cfg.brightness + cfg.rainStep - 1) / cfg.rainStep

/-- The ticks of a phase are those before which the increasing channel is below BRIGHTNESS. -/
theorem lt_phaseTicks_iff {cfg : Config.Params} (hS : 1 ≤ cfg.rainStep) (k : Nat) :
    k < phaseTicks cfg ↔ k * cfg.rainStep < cfg.brightness := by
  rw [phaseTicks, ← Nat.succ_le_iff, Nat.le_div_iff_mul_le hS, Nat.succ_mul]
  omega

/-- A phase takes `ceil(B / S)` ticks and hands over to the next colour's (43_animation.md R156). -/
theorem WheelAt.iterate_phaseTicks {d : Colour} {m : Nat} {s : State} (h : WheelAt d 0 (adv^[m] s))
    (hadm : s.cfg.admitted = true) : WheelAt d.next 0 (adv^[m + phaseTicks s.cfg] s) := by
  obtain ⟨-, ⟨hB', hB⟩, ⟨hS, -⟩, -⟩ := ranges_of_admitted hadm
  cases hq : phaseTicks s.cfg with
  | zero =>
    have hpos := (lt_phaseTicks_iff hS 0).mpr (by omega)
    omega
  | succ q =>
    have hlast := (lt_phaseTicks_iff hS q).mp (by omega)
    have hover := mt (lt_phaseTicks_iff hS (q + 1)).mpr (by omega)
    rw [Nat.succ_mul] at hover
    have hacross := (h.iterate_within hB hlast).adv_across (by simpa using hB)
    rw [iterate_adv_cfg] at hacross
    rw [← Nat.add_assoc, Function.iterate_succ_apply']
    exact hacross (by omega)

theorem eq_self_or_next_or_third (c d : Colour) : c = d ∨ c = d.next ∨ c = d.next.next := by
  cases c <;> cases d <;> simp [Colour.next]

/-- Ticks that bring the wheel back to its position bring back the state. -/
theorem WheelAt.iterate_eq {d : Colour} {n k : Nat} {s : State} (h : WheelAt d n s) (hk : WheelAt d n (adv^[k] s)) :
    adv^[k] s = s := by
  have hrain (c : Colour) : (adv^[k] s).rain c = s.rain c := by
    obtain rfl | rfl | rfl := eq_self_or_next_or_third c d
    · exact BitVec.eq_of_toNat_eq (by rw [hk.decreasing, h.decreasing, iterate_adv_cfg])
    · exact BitVec.eq_of_toNat_eq (hk.increasing.trans h.increasing.symm)
    · rw [hk.third_zero, h.third_zero]
  have hred : (adv^[k] s).rainR = s.rainR := hrain .red
  have hgreen : (adv^[k] s).rainG = s.rainG := hrain .green
  have hblue : (adv^[k] s).rainB = s.rainB := hrain .blue
  rw [iterate_adv_frame, hred, hgreen, hblue, hk.phase, ← h.phase]

/-- Settles O48: three phases of `ceil(B / S)` ticks, green, blue and red, bring the wheel back to its position, and so
the state back to the seed's. -/
theorem wheelReturnsToItsSeed : Obligations.WheelReturnsToItsSeed := by
  intro s hadm p
  obtain ⟨-, ⟨-, hB⟩, ⟨hS, -⟩, -⟩ := ranges_of_admitted hadm
  have hgreen : WheelAt .green 0 (adv^[0] (seed s)) := seed_wheelAt s hB
  have hblue : WheelAt .blue 0 (adv^[p] (seed s)) := by
    rw [← Nat.zero_add p]
    exact hgreen.iterate_phaseTicks hadm
  have hred : WheelAt .red 0 (adv^[2 * p] (seed s)) := by
    rw [Nat.two_mul]
    exact hblue.iterate_phaseTicks hadm
  have hback : WheelAt .green 0 (adv^[3 * p] (seed s)) := by
    rw [show 3 * p = 2 * p + p by omega]
    exact hred.iterate_phaseTicks hadm
  have hposition (k : Nat) (hk : k < p) : WheelAt .green (k * s.cfg.rainStep) (adv^[k] (seed s)) ∧
      WheelAt .blue (k * s.cfg.rainStep) (adv^[p + k] (seed s)) ∧
      WheelAt .red (k * s.cfg.rainStep) (adv^[2 * p + k] (seed s)) := by
    have hbelow : k * s.cfg.rainStep < s.cfg.brightness := (lt_phaseTicks_iff hS k).mp hk
    exact ⟨by simpa using hgreen.iterate_within hB hbelow, hblue.iterate_within hB hbelow,
      hred.iterate_within hB hbelow⟩
  refine ⟨iterate_adv_wheelInv hgreen.toWheelInv hB, fun k hk => ?_, fun k hk => ?_, hgreen.iterate_eq hback⟩ <;>
    obtain ⟨hg, hb, hr⟩ := hposition k hk
  · exact ⟨hg.phase, hb.phase, hr.phase⟩
  · exact ⟨hg.increasing, hb.increasing, hr.increasing⟩

end Sys2Proof.Laws
end

section
/-! SET_MODE and READ_RAINBOW: their words, and the answer of a snapshot (43_animation.md R150, R151). -/

namespace Sys2Proof.Laws

open Sys2Proof.Machine

theorem decodeWords_setMode {nch : Nat} {w : Word} (rest : List Word) (hop : opField w = 0xB) :
    decodeWords nch w rest = decodeSetMode w := by
  rw [decodeWords, hop]; rfl

theorem runsAs_setMode {w : Word} {m : Mode} (hop : opField w = 0xB) (hreserved : w.extractLsb' 2 26 = 0)
    (hcode : w.extractLsb' 0 2 = m.code) : RunsAs w (.setMode m) := by
  intro s hm
  refine stepRunsTheDecodedCommand s _ hm.toMoves ?_
  rw [decode_of_getElem? hm.word, decodeWords_setMode _ hop]
  exact (decodeSetMode_eq_ok ..).mpr ⟨hreserved, m, hcode, rfl⟩

theorem raisesIllegal_setMode {w : Word} (hop : opField w = 0xB)
    (hillegal : w.extractLsb' 2 26 ≠ 0 ∨ w.extractLsb' 0 2 = 3) : RaisesIllegal w := by
  intro s hm
  refine step_of_not_decoded hm fun hdecodes => ?_
  rw [decode_of_getElem? hm.word, decodeWords_setMode _ hop, exists_decodeSetMode_iff] at hdecodes
  obtain ⟨hreserved, hmode⟩ := hdecodes
  exact hillegal.elim (· hreserved) hmode

theorem decodesInFormatZ_readRainbow : DecodesInFormatZ 0xC .readRainbow := fun _ _ _ hop => by
  rw [decodeWords, hop]; rfl

/-- A colour's word as a number: its channels do not overlap (43_animation.md R151). -/
theorem colourWord_toNat (r g b : Byte) :
    (colourWord r g b).toNat = r.toNat * 65536 + g.toNat * 256 + b.toNat := by
  have hr := r.isLt
  have hg := g.isLt
  have hb := b.isLt
  have hlow : g.toNat <<< 8 ||| b.toNat = g.toNat <<< 8 + b.toNat := (Nat.shiftLeft_add_eq_or_of_lt hb _).symm
  have hlow_lt : g.toNat <<< 8 + b.toNat < 2 ^ 16 := by omega
  have hword : (colourWord r g b).toNat = r.toNat <<< 16 ||| g.toNat <<< 8 ||| b.toNat := by
    simp (disch := omega) only [colourWord, BitVec.toNat_or, BitVec.toNat_shiftLeft, BitVec.toNat_setWidth,
      Nat.mod_eq_of_lt]
  rw [hword, Nat.or_assoc, hlow, ← Nat.shiftLeft_add_eq_or_of_lt hlow_lt]
  omega

end Sys2Proof.Laws
end

section
/-! Which commands and agents' moves write the rainbow registers or leave a tick pending (43_animation.md R158). -/

namespace Sys2Proof.Laws

open Sys2Proof.Machine

/-- The rainbow registers are as they were (10_state.md R26). -/
structure KeepsRainbow (s t : State) : Prop where
  rainR : t.rainR = s.rainR
  rainG : t.rainG = s.rainG
  rainB : t.rainB = s.rainB
  rainPh : t.rainPh = s.rainPh

/-- Taking the event does not move them. -/
theorem KeepsRainbow.of_takeEvent {s t : State} (h : KeepsRainbow s.takeEvent t) : KeepsRainbow s t := by
  obtain ⟨hred, hgreen, hblue, hphase⟩ := h
  exact ⟨by simpa using hred, by simpa using hgreen, by simpa using hblue, by simpa using hphase⟩

@[simp] theorem burst_tickPend (ch : Nat) (bits : Burst) (s : State) : (burst ch bits s).tickPend = s.tickPend := by
  rw [burst_frame]

theorem burst_keepsRainbow (ch : Nat) (bits : Burst) (s : State) : KeepsRainbow s (burst ch bits s) := by
  rw [burst_frame]
  constructor <;> rfl

/-- SET_MODE 2 is the only command that writes the rainbow registers (43_animation.md R158). -/
theorem commandEffect_keepsRainbow {i : Instr} (hi : i ≠ .setMode .rainbow) (s : State) :
    KeepsRainbow s (commandEffect i s) := by
  cases i with
  | sendBit ch v => exact burst_keepsRainbow _ _ s
  | sendByte ch byte => exact burst_keepsRainbow _ _ s
  | sendPixel ch rgb => exact burst_keepsRainbow _ _ s
  | frame ch px => exact { burst_keepsRainbow ch.toNat (frameBits px) s with }
  | setMode m =>
    cases m with
    | rainbow => exact absurd rfl hi
    | default => constructor <;> rfl
    | shine => constructor <;> rfl
  | _ => constructor <;> rfl

/-- No command marks a tick (43_animation.md R153). -/
theorem commandEffect_tickPend {s : State} (idle : s.tickPend = false) (i : Instr) :
    (commandEffect i s).tickPend = false := by
  cases i with
  | setMode m => cases m <;> simp [commandEffect, apply_ite State.tickPend, idle]
  | _ => simp [commandEffect, idle]

/-- While the timer is disarmed and no tick is pending, no agent other than MAIN marks a tick or moves the wheel
(43_animation.md R153, R154). -/
theorem SideMove.keepsRainbow_of_disarmed {s t : State} {e : Event} (move : SideMove s e t) (disarmed : s.armed = false)
    (idle : s.tickPend = false) : KeepsRainbow s t ∧ t.tickPend = false := by
  cases move with
  | ticks armed => simp [disarmed] at armed
  | turnsWheel _ pending => simp [idle] at pending
  | _ => exact ⟨by constructor <;> rfl, idle⟩

/-- Outside Rainbow the timer is disarmed and no tick is pending (10_state.md R39). -/
theorem disarmed_of_not_rainbow {s : State} (h : s.Inv) (hmode : s.mode ≠ .rainbow) :
    s.armed = false ∧ s.tickPend = false := by
  have disarmed : s.armed = false := Bool.eq_false_iff.mpr (mt h.armed_iff.mp hmode)
  exact ⟨disarmed, Bool.eq_false_iff.mpr fun hpend => by simp [h.tick_armed hpend] at disarmed⟩

end Sys2Proof.Laws
end

section
/-! The statements of 43_animation.md on one command and on one step. -/

namespace Sys2Proof.Laws

open Sys2Proof.Machine

/-- Settles O6: from another mode SET_MODE 2 seeds, and the seed is a state of the wheel. -/
theorem enteringRainbowSeedsTheWheel : Obligations.EnteringRainbowSeedsTheWheel := by
  intro s hadm hmode
  obtain ⟨-, ⟨-, hB⟩, -⟩ := ranges_of_admitted hadm
  have hgreen : (BitVec.ofNat 8 s.cfg.brightness).toNat = s.cfg.brightness := Nat.mod_eq_of_lt (by omega)
  exact ⟨_, (execSetMode_rainbow s _).mpr (.inl ⟨.inl hmode, rfl⟩), rfl, hgreen, rfl, rfl,
    { seed_wheelInv _ hB with }⟩

/-- Settles O43: the two low bits of SET_MODE's word tell the mode, and the mode's effect is the one said of it. -/
theorem setModeArmsOrDisarmsTheTimer : Obligations.SetModeArmsOrDisarmsTheTimer :=
  ⟨runsAs_setMode (by decide) (by decide) (by decide), runsAs_setMode (by decide) (by decide) (by decide),
    runsAs_setMode (by decide) (by decide) (by decide),
    fun _ hop hillegal => raisesIllegal_setMode hop hillegal,
    fun s m hm => execSetMode_other m s hm,
    fun s hseeds => (execSetMode_rainbow s _).mpr (.inl ⟨hseeds, rfl⟩),
    fun s hmode hkeeps => (execSetMode_rainbow s _).mpr (.inr ⟨by simp [hmode, hkeeps], rfl⟩)⟩

/-- Settles O44: READ_RAINBOW is the format Z command of opcode 0xC, and its answer is the colour's word. -/
theorem readRainbowReturnsOneSnapshot : Obligations.ReadRainbowReturnsOneSnapshot :=
  ⟨runsAs_of_decodesInFormatZ decodesInFormatZ_readRainbow (by decide) (by decide),
    fun _ hop hreserved => raisesIllegal_of_decodesInFormatZ decodesInFormatZ_readRainbow hop hreserved,
    fun _ => ⟨_, colourWord_toNat _ _ _, rfl⟩⟩

/-- Settles O46: the timer is enabled exactly while it is armed and no tick is pending. -/
theorem timerMarksOneTick : Obligations.TimerMarksOneTick := by
  intro s hm
  rw [step_of_moves s _ hm, turn, timerTurn, timerReady, takeEvent_armed, takeEvent_tickPend]
  refine ⟨fun ⟨harmed, hidle⟩ => ?_, fun hdisabled => ?_⟩
  · rw [harmed, hidle]
    rfl
  · obtain harmed | hpend := hdisabled
    · simp [harmed]
    · simp [hpend]

/-- Settles O47: the tick handler is enabled exactly while a tick is pending and interrupts are enabled, and it moves
the wheel one step. -/
theorem tickHandlerMovesTheWheelOneStep : Obligations.TickHandlerMovesTheWheelOneStep := by
  intro s hm
  obtain ⟨-, ⟨-, hB⟩, -⟩ := ranges_of_admitted hm.admitted
  rw [step_of_moves s _ hm, turn, tickIsrTurn, tickIsrReady, takeEvent_ie, takeEvent_tickPend]
  refine ⟨fun hmasked => ?_, fun ⟨hie, hpend⟩ => ?_⟩
  · obtain hie | hpend := hmasked
    · simp [hie]
    · simp [hpend]
  · have hwheel := tickHandler_moves_wheel s.takeEvent (by simpa using hB)
    simp only [rain_takeEvent, takeEvent_rainPh, takeEvent_cfg] at hwheel
    exact ⟨tickHandler s.takeEvent, by simp [hie, hpend], tickHandler_frame _, hwheel⟩

/-- Settles O49: outside Rainbow no tick is pending and the timer cannot mark one, so of the moves of a step only a
completed SET_MODE 2 writes the wheel. -/
theorem noTickOutsideRainbow : Obligations.NoTickOutsideRainbow := by
  intro s t h hmode hstep hn
  obtain ⟨disarmed, idle⟩ := disarmed_of_not_rainbow (takeEvent_inv h) (by simpa using hmode)
  obtain ⟨-, -, hmoved⟩ := moved_of_step hstep hn
  suffices hkeeps : (s.nextEvent = .main ∧ decode s.cfg.nch s.stream s.cp = .ok (.setMode .rainbow)) ∨
      (KeepsRainbow s.takeEvent t ∧ t.tickPend = false) by
    refine hkeeps.imp_right fun ⟨hkept, hpend⟩ => ?_
    obtain ⟨hred, hgreen, hblue, hphase⟩ := hkept.of_takeEvent
    exact ⟨hred, hgreen, hblue, hphase, hpend⟩
  cases hmoved with
  | completes i main decoded =>
    by_cases hi : i = .setMode .rainbow
    · exact .inl ⟨main, hi ▸ decoded⟩
    · exact .inr ⟨{ commandEffect_keepsRainbow hi s.takeEvent with }, commandEffect_tickPend idle i⟩
  | faults => exact .inr ⟨by constructor <;> rfl, idle⟩
  | side move => exact .inr (move.keepsRainbow_of_disarmed disarmed idle)

end Sys2Proof.Laws
end

section
/-! Control (44_control.md): the words of NOP and READ_STATUS, and the status word bit by bit. -/

namespace Sys2Proof.Laws

open Sys2Proof.Machine

theorem decodesInFormatZ_nop : DecodesInFormatZ 0x0 .nop := fun _ _ _ hop => by rw [decodeWords, hop]; rfl

theorem decodesInFormatZ_readStatus : DecodesInFormatZ 0xD .readStatus := fun _ _ _ hop => by
  rw [decodeWords, hop]; rfl

/-- Everything NOP does (44_control.md R170), as a run of the command. -/
theorem exec_nop (s : State) : exec .nop s = .next { s with cp := s.cp + 1 } := rfl

/-- Everything READ_STATUS does (44_control.md R171), as a run of the command. -/
theorem exec_readStatus (s : State) :
    exec .readStatus s = .next { s with resp := statusWord s, out := s.out ++ [statusWord s], cp := s.cp + 1 } := rfl

/-- A flag's word is the flag at its own bit and zero at every other. -/
theorem getLsbD_flagBit (b : Bool) {k : Nat} (hk : k < 32) (i : Nat) :
    (flagBit b k).getLsbD i = (decide (i = k) && b) := by
  rw [flagBit, BitVec.getLsbD_shiftLeft, BitVec.getLsbD_setWidth, BitVec.getLsbD_ofBool]
  obtain hlt | rfl | hgt := Nat.lt_trichotomy i k
  · simp [hlt, hlt.ne]
  · simp [hk]
  · simp [hgt.ne', show i - k ≠ 0 by omega]

/-- The mode's code, placed from bit 1 of a word, is its two bits there and zero at every other. -/
theorem getLsbD_modeField (m : Mode) (i : Nat) :
    (m.code.setWidth 32 <<< 1).getLsbD i = (decide (1 ≤ i ∧ i ≤ 2) && m.code.getLsbD (i - 1)) := by
  obtain rfl | rfl | rfl | hgt : i = 0 ∨ i = 1 ∨ i = 2 ∨ 3 ≤ i := by omega
  · simp
  · simp
  · simp
  · simp [BitVec.getLsbD_of_ge m.code (i - 1) (by omega), show ¬i ≤ 2 by omega]

/-- Every bit of the status word (10_state.md R36): each field answers at its own positions only. -/
theorem getLsbD_statusWord (s : State) (i : Nat) :
    (statusWord s).getLsbD i =
      (decide (i = 7) && s.adcPend || decide (i = 6) && s.adcBusy || decide (i = 5) && s.ready ||
        decide (i = 4) && s.tickPend || decide (i = 3) && s.armed ||
        decide (1 ≤ i ∧ i ≤ 2) && s.mode.code.getLsbD (i - 1) || decide (i = 0) && s.ie) := by
  simp only [statusWord, BitVec.getLsbD_or, getLsbD_modeField, getLsbD_flagBit, Nat.reduceLT]

/-- Bits 2:1 of the status word are the mode's code. -/
theorem extractLsb'_mode_statusWord (s : State) : (statusWord s).extractLsb' 1 2 = s.mode.code := by
  refine BitVec.eq_of_getLsbD_eq fun i hi => ?_
  rw [BitVec.getLsbD_extractLsb', getLsbD_statusWord]
  obtain rfl | rfl : i = 0 ∨ i = 1 := by omega
  · simp
  · simp

/-- The status word has no bit above bit 7. -/
theorem extractLsb'_reserved_statusWord (s : State) : (statusWord s).extractLsb' 8 24 = 0 := by
  refine BitVec.eq_of_getLsbD_eq fun i _ => ?_
  have hbeyond : ∀ k < 8, 8 + i ≠ k := by omega
  have hmode : ¬(1 ≤ 8 + i ∧ 8 + i ≤ 2) := by omega
  simp [getLsbD_statusWord, hbeyond, hmode]

end Sys2Proof.Laws
end

section
/-! The statements of 44_control.md: the word by its format, the effect by what a run of the command writes. -/

namespace Sys2Proof.Laws

open Sys2Proof.Machine

/-- Settles O51: NOP is the format Z command of opcode 0. -/
theorem nopOnlyAdvances : Obligations.NopOnlyAdvances :=
  ⟨runsAs_of_decodesInFormatZ decodesInFormatZ_nop (by decide) (by decide),
    fun _ hop hreserved => raisesIllegal_of_decodesInFormatZ decodesInFormatZ_nop hop hreserved, exec_nop⟩

/-- Settles O52: READ_STATUS is the format Z command of opcode 0xD, and its answer is the status word, read field by
field. -/
theorem readStatusReturnsTheFlags : Obligations.ReadStatusReturnsTheFlags := by
  refine ⟨runsAs_of_decodesInFormatZ decodesInFormatZ_readStatus (by decide) (by decide),
    fun _ hop hreserved => raisesIllegal_of_decodesInFormatZ decodesInFormatZ_readStatus hop hreserved, fun s => ?_⟩
  refine ⟨statusWord s, exec_readStatus s, ?ie, ?mode, ?armed, ?tickPend, ?ready, ?adcBusy, ?adcPend, ?reserved⟩
  case mode => exact extractLsb'_mode_statusWord s
  case reserved => exact extractLsb'_reserved_statusWord s
  all_goals exact (getLsbD_statusWord s _).trans (by simp)

end Sys2Proof.Laws
end

section
/-! The reference host's colours and its strip's turn: what each phase leads to, and when the turn ends
(48_host_display.md R201 to R210). -/

namespace Sys2Proof.Laws

open Sys2Proof.Machine

theorem litCountOf_le (cfg : Config.Params) (s : Byte) : litCountOf cfg s ≤ 255 / (cfg.accuracy / cfg.stripLength) :=
  Nat.div_le_div_right (by omega)

/-- Below the count the Shine level is `scale` times the square of the distance from four pixels under the edge; further
down that distance is cut off at 0 (R204). -/
theorem shineLevel_of_lt {i l : Nat} (bright : Nat) (h : i < l) :
    shineLevel bright i l = bright / 9 * ((i + 4 - l) * (i + 4 - l)) := by
  simp only [shineLevel, show ¬i ≥ l by omega, if_false]
  split
  · next hedge =>
    rw [show i + 4 - l = 3 by omega, Nat.mul_comm]
  · split
    · rw [Nat.mul_assoc]
    · rw [show i + 4 - l = 0 by omega, Nat.mul_zero]

theorem renderColours_getElem? (cfg : Config.Params) (mode : Mode) (snap : Rgb) (k : HostStrip) {i : Nat}
    (h : i < k.pixelCount) :
    (renderColours cfg mode snap k)[i]? = some (pixelColour cfg mode snap k.litCount k.pixelCount i) := by
  simp [renderColours, h]

@[simp] theorem renderColours_length (cfg : Config.Params) (mode : Mode) (snap : Rgb) (k : HostStrip) :
    (renderColours cfg mode snap k).length = k.pixelCount := by
  simp [renderColours]

/-- The host with the new count of its strip stored, as in both branches of the skip rule (R202). -/
def storeCount (cfg : Config.Params) (h : HostState) (s : Byte) : HostState :=
  { h with strips := h.strips.modify h.current (fun k => stripAfter cfg k s) }

@[simp] theorem storeCount_mode (cfg : Config.Params) (h : HostState) (s : Byte) :
    (storeCount cfg h s).mode = h.mode := rfl

@[simp] theorem storeCount_current (cfg : Config.Params) (h : HostState) (s : Byte) :
    (storeCount cfg h s).current = h.current := rfl

@[simp] theorem storeCount_strips_length (cfg : Config.Params) (h : HostState) (s : Byte) :
    (storeCount cfg h s).strips.length = h.strips.length := List.length_modify ..

theorem strip_of_getElem? {h : HostState} {k : HostStrip} (hk : h.strips[h.current]? = some k) : h.strip = k := by
  rw [HostState.strip, List.getD_eq_getElem?_getD, hk, Option.getD_some]

theorem getElem?_current {h : HostState} (hc : h.current < h.strips.length) :
    h.strips[h.current]? = some h.strip := by
  have hk := List.getElem?_eq_getElem hc
  rwa [strip_of_getElem? hk]

theorem storeCount_strips_current {cfg : Config.Params} {h : HostState} {k : HostStrip} (s : Byte)
    (hk : h.strips[h.current]? = some k) :
    (storeCount cfg h s).strips[h.current]? = some { k with litCount := litCountOf cfg s } := by
  simp [storeCount, hk, stripAfter]

theorem storeCount_strips_other (cfg : Config.Params) (h : HostState) (s : Byte) {j : Nat} (hj : j ≠ h.current) :
    (storeCount cfg h s).strips[j]? = h.strips[j]? := by
  simp [storeCount, hj.symm]

theorem showSample_of_rainbow {cfg : Config.Params} {h : HostState} (s : Byte) (hm : h.mode = .rainbow) :
    h.showSample cfg s = { storeCount cfg h s with phase := .snapshot } := by
  simp [HostState.showSample, mustRender, hm, storeCount]

theorem showSample_of_changed {cfg : Config.Params} {h : HostState} {s : Byte} (hm : h.mode ≠ .rainbow)
    (hl : litCountOf cfg s ≠ h.strip.litCount) :
    h.showSample cfg s = { storeCount cfg h s with phase := .render offPixel } := by
  simp [HostState.showSample, mustRender, hm, hl, storeCount]

theorem showSample_of_unchanged {cfg : Config.Params} {h : HostState} {s : Byte} (hm : h.mode ≠ .rainbow)
    (hl : litCountOf cfg s = h.strip.litCount) : h.showSample cfg s = (storeCount cfg h s).nextTurn := by
  simp [HostState.showSample, mustRender, hm, hl, storeCount]

theorem hostAfter_strobe {cfg : Config.Params} {h : HostState} {s : Byte} (resp : Word) (hp : h.phase = .strobe s) :
    hostAfter cfg h resp = h.showSample cfg s := by
  simp only [hostAfter, hp]

/-- A host at a render issues one FRAME on its strip's line (R206). -/
theorem hostCommand_render (cfg : Config.Params) {h : HostState} {snap : Rgb} (hp : h.phase = .render snap) :
    hostCommand cfg h = .frame (BitVec.ofNat 4 h.strip.chan) (renderColours cfg h.mode snap h.strip) := by
  simp only [hostCommand, hp, renderCommand]

/-- The FRAME of a strip whose new count was just stored shows that count (R202, R206). -/
theorem hostCommand_render_storeCount {cfg : Config.Params} {h : HostState} {k : HostStrip} (s : Byte) (snap : Rgb)
    (hk : h.strips[h.current]? = some k) :
    hostCommand cfg { storeCount cfg h s with phase := .render snap } =
      .frame (BitVec.ofNat 4 k.chan) (renderColours cfg h.mode snap { k with litCount := litCountOf cfg s }) := by
  have hstrip : (storeCount cfg h s).strip = { k with litCount := litCountOf cfg s } :=
    strip_of_getElem? (storeCount_strips_current s hk)
  rw [hostCommand_render cfg rfl]
  exact congrArg
    (fun k' => Instr.frame (BitVec.ofNat 4 k'.chan) (renderColours cfg h.mode snap k')) hstrip

end Sys2Proof.Laws
end

section
/-! The host's run from its start: SET_MODE comes once, and each turn passes through its phases to the next strip's
(48_host_display.md R207, R210, R211; 70_reset_and_hazards.md R283). -/

namespace Sys2Proof.Laws

open Sys2Proof.Machine

/-- No move of the host leads back to its SET_MODE (R211). -/
theorem hostAfter_phase_ne_bootMode (cfg : Config.Params) (h : HostState) (resp : Word) :
    (hostAfter cfg h resp).phase ≠ .bootMode := by
  unfold hostAfter
  split
  case h_6 s _ =>
    by_cases hm : h.mode = .rainbow
    · simp [showSample_of_rainbow s hm]
    · by_cases hl : litCountOf cfg s = h.strip.litCount
      · simp [showSample_of_unchanged hm hl]
      · simp [showSample_of_changed hm hl]
  all_goals simp

/-- Only at its boot's first phase has the host just issued a SET_MODE (R211). -/
theorem phase_of_hostCommand_setMode {cfg : Config.Params} {h : HostState} {m : Mode}
    (hc : hostCommand cfg h = .setMode m) : h.phase = .bootMode := by
  unfold hostCommand at hc
  split at hc
  case h_1 hp => exact hp
  all_goals cases hc

/-- The configuration's line and pixel count of each strip stand in the host's run (R200). -/
theorem hostAt_strip_eq {cfg : Config.Params} {m : Mode} {answers : Nat → Word} {n i : Nat} {k : Config.StripParams}
    {old : HostStrip} (hk : cfg.strips[i]? = some k) (hold : (hostAt cfg m answers n).strips[i]? = some old) :
    old.chan = k.chan ∧ old.pixelCount = k.pixelCount := by
  have h : ((hostAt cfg m answers n).strips.map fixedPart)[i]? =
      (cfg.strips.map (fun k => (k.chan, k.pixelCount)))[i]? := by rw [hostAt_fixedPart]
  simpa only [List.getElem?_map, hold, hk, Option.map_some, Option.some.injEq, fixedPart, Prod.mk.injEq] using h

section Turn

variable {cfg : Config.Params} {m : Mode} {answers : Nat → Word} {n : Nat}

/-- The sample of the turn that begins at the `n`-th command: what its TAKE_SAMPLE, the next one, answers (R210). -/
def turnSample (answers : Nat → Word) (n : Nat) : Byte := sampleOfResponse (answers (n + 1))

/-- A turn's first three commands are the same in every mode (R210). -/
theorem hostAt_of_wait (hw : (hostAt cfg m answers n).phase = .wait) :
    hostAt cfg m answers (n + 1) = { hostAt cfg m answers n with phase := .take } ∧
      hostAt cfg m answers (n + 2) = { hostAt cfg m answers n with phase := .strobe (turnSample answers n) } ∧
      hostAt cfg m answers (n + 3) = (hostAt cfg m answers n).showSample cfg (turnSample answers n) := by
  have h1 : hostAt cfg m answers (n + 1) = { hostAt cfg m answers n with phase := .take } := by
    simp only [hostAt_succ, hostAfter, hw]
  have h2 : hostAt cfg m answers (n + 2) =
      { hostAt cfg m answers n with phase := .strobe (turnSample answers n) } := by
    rw [hostAt_succ, h1]; rfl
  refine ⟨h1, h2, ?_⟩
  rw [hostAt_succ, h2]; rfl

/-- A Rainbow turn reads the colour, shows it, and ends (R207). -/
theorem hostAt_of_wait_rainbow (hw : (hostAt cfg m answers n).phase = .wait) (hm : m = .rainbow) :
    hostAt cfg m answers (n + 3) =
        { storeCount cfg (hostAt cfg m answers n) (turnSample answers n) with phase := .snapshot } ∧
      hostAt cfg m answers (n + 4) =
        { storeCount cfg (hostAt cfg m answers n) (turnSample answers n) with
          phase := .render (snapshotOfResponse (answers (n + 3))) } ∧
      hostAt cfg m answers (n + 5) = (storeCount cfg (hostAt cfg m answers n) (turnSample answers n)).nextTurn := by
  obtain ⟨-, -, h3⟩ := hostAt_of_wait hw
  rw [showSample_of_rainbow _ ((hostAt_mode ..).trans hm)] at h3
  have h4 : hostAt cfg m answers (n + 4) =
      { storeCount cfg (hostAt cfg m answers n) (turnSample answers n) with
        phase := .render (snapshotOfResponse (answers (n + 3))) } := by
    rw [hostAt_succ, h3]; rfl
  refine ⟨h3, h4, ?_⟩
  rw [hostAt_succ, h4]; rfl

/-- Outside Rainbow a turn with a changed count shows it, and ends (R202). -/
theorem hostAt_of_wait_changed (hw : (hostAt cfg m answers n).phase = .wait) (hm : m ≠ .rainbow)
    (hl : litCountOf cfg (turnSample answers n) ≠ (hostAt cfg m answers n).strip.litCount) :
    hostAt cfg m answers (n + 3) =
        { storeCount cfg (hostAt cfg m answers n) (turnSample answers n) with phase := .render offPixel } ∧
      hostAt cfg m answers (n + 4) = (storeCount cfg (hostAt cfg m answers n) (turnSample answers n)).nextTurn := by
  obtain ⟨-, -, h3⟩ := hostAt_of_wait hw
  rw [showSample_of_changed (by rwa [hostAt_mode]) hl] at h3
  refine ⟨h3, ?_⟩
  rw [hostAt_succ, h3]; rfl

/-- Outside Rainbow a turn with the stored count ends without a FRAME (R202). -/
theorem hostAt_of_wait_unchanged (hw : (hostAt cfg m answers n).phase = .wait) (hm : m ≠ .rainbow)
    (hl : litCountOf cfg (turnSample answers n) = (hostAt cfg m answers n).strip.litCount) :
    hostAt cfg m answers (n + 3) = (storeCount cfg (hostAt cfg m answers n) (turnSample answers n)).nextTurn := by
  obtain ⟨-, -, h3⟩ := hostAt_of_wait hw
  rw [h3, showSample_of_unchanged (by rwa [hostAt_mode]) hl]

/-- A turn's FRAME is for the line and the pixels of the configuration's strip, each in the mode's colour for the new
count (R203 to R206). -/
theorem hostCommand_render_hostAt {k : Config.StripParams}
    (hk : cfg.strips[(hostAt cfg m answers n).current]? = some k) (s : Byte) (snap : Rgb) :
    hostCommand cfg { storeCount cfg (hostAt cfg m answers n) s with phase := .render snap } =
      .frame (BitVec.ofNat 4 k.chan)
        ((List.range k.pixelCount).map (pixelColour cfg m snap (litCountOf cfg s) k.pixelCount)) := by
  obtain ⟨hc, -⟩ := List.getElem?_eq_some_iff.mp hk
  have hstrip := getElem?_current (h := hostAt cfg m answers n) (by rwa [hostAt_strips_length])
  obtain ⟨hchan, hpixels⟩ := hostAt_strip_eq hk hstrip
  rw [hostCommand_render_storeCount s snap hstrip, hostAt_mode, hchan, renderColours, hpixels]

end Turn

/-- The number of commands in the turn a host `h` begins, when its sample is `s` (R202, R207, R210). -/
def turnLength (cfg : Config.Params) (h : HostState) (s : Byte) : Nat :=
  if h.mode = .rainbow then 5 else if litCountOf cfg s = h.strip.litCount then 3 else 4

/-- The place of the `j`-th turn's WAIT_READY among the host's commands: the first comes after the three of the boot. -/
def turnBegins (cfg : Config.Params) (m : Mode) (answers : Nat → Word) : Nat → Nat
  | 0 => 3
  | j + 1 =>
    let n := turnBegins cfg m answers j
    n + turnLength cfg (hostAt cfg m answers n) (turnSample answers n)

theorem turnBegins_succ (cfg : Config.Params) (m : Mode) (answers : Nat → Word) (j : Nat) :
    turnBegins cfg m answers (j + 1) = turnBegins cfg m answers j +
      turnLength cfg (hostAt cfg m answers (turnBegins cfg m answers j))
        (turnSample answers (turnBegins cfg m answers j)) := rfl

/-- Whatever its turn's length, the host stores the new count and goes on to the next strip (R202, R210). -/
theorem hostAt_turnLength {cfg : Config.Params} {m : Mode} {answers : Nat → Word} {n : Nat}
    (hw : (hostAt cfg m answers n).phase = .wait) :
    hostAt cfg m answers (n + turnLength cfg (hostAt cfg m answers n) (turnSample answers n)) =
      (storeCount cfg (hostAt cfg m answers n) (turnSample answers n)).nextTurn := by
  unfold turnLength
  rw [hostAt_mode]
  split
  · next hm => exact (hostAt_of_wait_rainbow hw hm).2.2
  · next hm =>
    split
    · next hl => exact hostAt_of_wait_unchanged hw hm hl
    · next hl => exact (hostAt_of_wait_changed hw hm hl).2

theorem nextStrip_of_mod {h : HostState} {j : Nat} (hn : 0 < h.strips.length) (hc : h.current = j % h.strips.length) :
    h.nextStrip = (j + 1) % h.strips.length := by
  rw [HostState.nextStrip, hc, ← Nat.mod_add_mod]
  have hlt := Nat.mod_lt j hn
  split
  · next hmore => exact (Nat.mod_eq_of_lt hmore).symm
  · next hlast => rw [show j % h.strips.length + 1 = h.strips.length by omega, Nat.mod_self]

/-- The `j`-th turn is strip `j` modulo the number of strips, from its WAIT_READY on (R210). -/
theorem hostAt_turnBegins {cfg : Config.Params} (m : Mode) (answers : Nat → Word) (hn : 0 < cfg.strips.length)
    (j : Nat) :
    (hostAt cfg m answers (turnBegins cfg m answers j)).phase = .wait ∧
      (hostAt cfg m answers (turnBegins cfg m answers j)).current = j % cfg.strips.length := by
  induction j with
  | zero => exact ⟨rfl, (Nat.zero_mod _).symm⟩
  | succ j ih =>
    obtain ⟨hw, hc⟩ := ih
    rw [turnBegins_succ, hostAt_turnLength hw]
    refine ⟨rfl, ?_⟩
    have hnext := nextStrip_of_mod (h := storeCount cfg (hostAt cfg m answers (turnBegins cfg m answers j))
      (turnSample answers (turnBegins cfg m answers j))) (j := j) (by simpa using hn) (by simpa using hc)
    simpa using hnext

end Sys2Proof.Laws
end

section
/-! Which commands of the host are commands of the block (48_host_display.md R200, R206; 30_encoding.md R72, R73). -/

namespace Sys2Proof.Laws

open Sys2Proof.Machine

theorem chan_lt_of_admitted {p : Config.Params} (h : p.admitted = true) : ∀ k ∈ p.strips, k.chan < p.nch :=
  by
  obtain ⟨-, -, -, -, -, -, -, -, -, -, -, -, hchan, -⟩ := of_decide_eq_true h
  exact hchan

theorem channelExists_ofNat {nch c : Nat} (hc : c < nch) (hnch : nch ≤ 16) :
    channelExists nch (BitVec.ofNat 4 c) = true := by
  rw [channelExists_iff, BitVec.toNat_ofNat, Nat.mod_eq_of_lt (by omega)]
  exact hc

/-- The host's command is one of the block's when its strip has a line of the block and fits a FRAME. -/
theorem hostCommand_wf {cfg : Config.Params} {h : HostState} (hnch : cfg.nch ≤ 16) (hchan : h.strip.chan < cfg.nch)
    (hcount : h.strip.pixelCount ≤ 65535) : (hostCommand cfg h).wf cfg.nch = true := by
  unfold hostCommand
  split
  case h_8 snap _ => exact wf_frame.mpr ⟨channelExists_ofNat hchan hnch, (renderColours_length ..).trans_le hcount⟩
  all_goals rfl

/-- The strip whose turn it is has the line and the pixel count of one of the configuration's (R200). -/
theorem exists_stripParams_of_hostAt {cfg : Config.Params} (m : Mode) (answers : Nat → Word) (n : Nat)
    (hn : 0 < cfg.strips.length) :
    ∃ k ∈ cfg.strips, (hostAt cfg m answers n).strip.chan = k.chan ∧
      (hostAt cfg m answers n).strip.pixelCount = k.pixelCount := by
  have hc := hostAt_current_lt cfg m answers n hn
  exact ⟨_, List.getElem_mem hc,
    hostAt_strip_eq (List.getElem?_eq_getElem hc) (getElem?_current (by rwa [hostAt_strips_length]))⟩

/-- The host's next command stands at `cp` of its rig's stream, right after the commands the block has run (R210). -/
theorem hostTurn_stream_drop {g : Rig} (hd : g.commandDone = true) :
    g.hostTurn.block.stream.drop g.hostTurn.block.cp =
      encode (hostCommand g.block.cfg (hostAfter g.block.cfg g.host g.block.resp)) := by
  have hcp : g.block.cp = g.block.stream.length := by simpa [Rig.commandDone] using (Bool.and_eq_true_iff.mp hd).2
  rw [(hostTurn_done g hd).2]
  exact List.drop_left' hcp.symm

end Sys2Proof.Laws
end

section
/-! The statements of 48_host_display.md: the host's colours by what each pixel shows, its commands by the phases of a
strip's turn. -/

namespace Sys2Proof.Laws

open Sys2Proof.Machine

/-- Settles O55: the mapping grows with the sample, and 255 is the largest one. -/
theorem litCountBoundIsItsLargestSample : Obligations.LitCountBoundIsItsLargestSample :=
  fun cfg _ _ => ⟨fun h => h 255, fun h s => (litCountOf_le cfg s).trans h⟩

/-- Settles O56: below the count the level is `scale` times a square that grows with the pixel. -/
theorem shineRampDoesNotDecrease : Obligations.ShineRampDoesNotDecrease := by
  intro bright l
  refine ⟨fun h => ?_, fun h => ?_, fun h => ?_, fun i h => ?_, fun i j hij hj => ?_⟩
  · rw [shineLevel_of_lt bright (by omega), show l - 3 + 4 - l = 1 by omega, Nat.mul_one]
  · rw [shineLevel_of_lt bright (by omega), show l - 2 + 4 - l = 2 by omega, Nat.mul_comm]
  · rw [shineLevel_of_lt bright (by omega), show l - 1 + 4 - l = 3 by omega, Nat.mul_comm]
  · rw [shineLevel_of_lt bright (by omega), show i + 4 - l = 0 by omega, Nat.mul_zero]
  · rw [shineLevel_of_lt bright (by omega), shineLevel_of_lt bright hj]
    have hdist : i + 4 - l ≤ j + 4 - l := by omega
    gcongr

/-- Settles O57: each pixel of a render is its colour by the mode's rule, which reads the tiers in this order. -/
theorem defaultRenderHasItsTiers : Obligations.DefaultRenderHasItsTiers :=
  fun cfg snap k _ hi => renderColours_getElem? cfg .default snap k hi

/-- Settles O58: after STROBE_START the host stores the count and takes one of the skip rule's three ways. -/
theorem skipRuleDecidesTheFrame : Obligations.SkipRuleDecidesTheFrame := by
  intro cfg h s resp hp hc
  have hk := getElem?_current hc
  have hstrips : (h.showSample cfg s).strips = (storeCount cfg h s).strips := showSample_strips cfg h s
  have hframe : ∀ snap, ∃ px, px.length = h.strip.pixelCount ∧
      hostCommand cfg { storeCount cfg h s with phase := .render snap } = .frame (BitVec.ofNat 4 h.strip.chan) px :=
    fun snap => ⟨_, by rw [renderColours_length], hostCommand_render_storeCount s snap hk⟩
  rw [hostAfter_strobe resp hp]
  refine ⟨?stored, ?others, ?skipped, ?rendered, ?rainbow⟩
  case stored => rw [hstrips, storeCount_strips_current s hk]
  case others =>
    intro j hj
    rw [hstrips, storeCount_strips_other cfg h s hj]
  case skipped =>
    rintro ⟨hl, hm⟩
    rw [showSample_of_unchanged hm hl]
    exact ⟨rfl, by simp [HostState.nextStrip]⟩
  case rendered =>
    rintro ⟨hl, hm⟩
    rw [showSample_of_changed hm hl]
    exact hframe offPixel
  case rainbow =>
    intro hm
    rw [showSample_of_rainbow s hm]
    exact ⟨rfl, fun r => hframe (snapshotOfResponse r)⟩

/-- Settles O59: the host's strips keep the configuration's lines and pixel counts, and a rig's stream grows at `cp` by
the encoder's words for the next command. -/
theorem hostIssuesLegalCommandsOnly : Obligations.HostIssuesLegalCommandsOnly := by
  constructor
  · intro cfg m answers n hadm hcount
    obtain ⟨⟨-, hnch⟩, -, -, -, -, hn, -⟩ := ranges_of_admitted hadm
    obtain ⟨k, hk, hchan, hpixels⟩ := exists_stripParams_of_hostAt m answers n hn
    exact hostCommand_wf hnch (hchan ▸ chan_lt_of_admitted hadm k hk) (hpixels ▸ hcount k hk)
  · intro g hd next hwf
    have hcfg : g.hostTurn.block.cfg = g.block.cfg := by rw [(hostTurn_done g hd).2]
    rw [hcfg]
    exact (decode_eq_ok ..).mpr ⟨hwf, [], by rw [hostTurn_stream_drop hd, List.append_nil]⟩

/-- Settles O60: the turns begin where `turnBegins` says, and each of them issues its commands in one of three ways. -/
theorem hostBootsOnceThenCyclesOverItsStrips : Obligations.HostBootsOnceThenCyclesOverItsStrips := by
  intro cfg m answers hadm
  obtain ⟨-, -, -, -, -, hn, -⟩ := ranges_of_admitted hadm
  refine ⟨rfl, rfl, rfl, ?once, turnBegins cfg m answers, rfl, fun j k old hk hold => ?turn⟩
  case once =>
    intro n m' hpos hset
    obtain ⟨n, rfl⟩ := Nat.exists_eq_add_of_le' hpos
    exact hostAfter_phase_ne_bootMode _ _ _ (phase_of_hostCommand_setMode hset)
  case turn =>
    obtain ⟨hw, hc⟩ := hostAt_turnBegins m answers hn j
    obtain ⟨hchan, hpixels⟩ := hostAt_strip_eq hk hold
    rw [turnBegins_succ]
    generalize turnBegins cfg m answers j = n at hw hc hold ⊢
    rw [← hc] at hk hold ⊢
    obtain ⟨h1, h2, h3⟩ := hostAt_of_wait hw
    have hold' := strip_of_getElem? hold
    have hchanged (hm : m ≠ .rainbow) (hl : litCountOf cfg (turnSample answers n) ≠ old.litCount) :
        hostIssues cfg m answers (n + 3) = .frame (BitVec.ofNat 4 k.chan) ((List.range k.pixelCount).map
            (pixelColour cfg m offPixel (litCountOf cfg (turnSample answers n)) k.pixelCount)) ∧
          n + turnLength cfg (hostAt cfg m answers n) (turnSample answers n) = n + 4 := by
      obtain ⟨h3, -⟩ := hostAt_of_wait_changed hw hm (by rwa [hold'])
      exact ⟨by rw [hostIssues, h3, hostCommand_render_hostAt hk], by simp [turnLength, hm, hold', hl]⟩
    refine ⟨hchan, hpixels, ?wait, ?take, ?strobe, ?stored, ?rainbow, ?default, ?shine, ?skipped⟩
    case wait => rw [hostIssues, hostCommand, hw]
    case take => rw [hostIssues, h1]; rfl
    case strobe => rw [hostIssues, h2]; rfl
    case stored =>
      rw [h3, showSample_strips]
      exact storeCount_strips_current _ hold
    case rainbow =>
      rintro rfl
      obtain ⟨h3, h4, -⟩ := hostAt_of_wait_rainbow hw rfl
      refine ⟨by rw [hostIssues, h3]; rfl, ?_, by simp [turnLength]⟩
      rw [hostIssues, h4, hostCommand_render_hostAt hk]
      rfl
    case default =>
      rintro ⟨rfl, hl⟩
      exact hchanged (by decide) hl
    case shine =>
      rintro ⟨rfl, hl⟩
      exact hchanged (by decide) hl
    case skipped =>
      rintro ⟨hm, hl⟩
      have hl' : litCountOf cfg (turnSample answers n) = old.litCount := hl
      simp [turnLength, hm, hold', hl']

end Sys2Proof.Laws
end

section
/-! Which steps enter the fault state, and at which cause (60_exceptions.md R240 to R243). -/

namespace Sys2Proof.Laws

open Sys2Proof.Machine

/-- A command's guards read flags that taking the event leaves. -/
@[simp] theorem faultOf_takeEvent (i : Instr) (s : State) : faultOf i s.takeEvent = faultOf i s := by
  cases i <;> simp [faultOf, waitIsHopeless]

/-- The fault MAIN's turn raises on the command at `cp`, or none: decoding comes before the command's own guards
(60_exceptions.md R241). -/
def faultAtCp (s : State) : FaultCause :=
  match fetch s with
  | .ok i => faultOf i s
  | .error _ => .illegalCmd

theorem faultAtCp_of_ok {s : State} {i : Instr} (h : fetch s = .ok i) : faultAtCp s = faultOf i s := by
  rw [faultAtCp, h]

theorem faultAtCp_of_error {s : State} {e : Illegal} (h : fetch s = .error e) : faultAtCp s = .illegalCmd := by
  rw [faultAtCp, h]

@[simp] theorem faultAtCp_takeEvent (s : State) : faultAtCp s.takeEvent = faultAtCp s := by
  simp [faultAtCp, fetch_takeEvent]

/-- A word is at `cp`, and the command there raises a fault. -/
def FaultDue (s : State) : Prop := s.cp < s.stream.length ∧ faultAtCp s ≠ .none

/-- A fault that is due is entered on MAIN's turn, and no other turn of MAIN touches `HALT`. -/
theorem mainTurn_enters_or_keeps {s t : State} (h : mainTurn s = .next t) :
    (FaultDue s ∧ t = s.enterFault (faultAtCp s)) ∨ (¬ FaultDue s ∧ t.halt = s.halt) := by
  obtain ⟨hend, hturn⟩ | ⟨hlt, i, hfetch, hturn⟩ | ⟨hlt, e, hfetch, hturn⟩ := mainTurn_cases s <;> rw [hturn] at h
  · cases h
    exact .inr ⟨fun due => Nat.not_lt.mpr hend due.1, rfl⟩
  · have hfault := faultAtCp_of_ok hfetch
    cases ran_of_exec h with
    | faults cause why isFault =>
      rw [why] at hfault
      exact .inl ⟨⟨hlt, hfault ▸ isFault⟩, by rw [hfault]⟩
    | holds _ _ noFault => exact .inr ⟨fun due => due.2 (hfault.trans noFault), rfl⟩
    | completes noFault => exact .inr ⟨fun due => due.2 (hfault.trans noFault), by simp⟩
  · cases h
    have hfault := faultAtCp_of_error hfetch
    exact .inl ⟨⟨hlt, by simp [hfault]⟩, by rw [hfault]⟩

/-- No agent other than MAIN writes `HALT` (10_state.md R34, 60_exceptions.md R240). -/
theorem SideMove.halt_eq {s t : State} {e : Event} (move : SideMove s e t) : t.halt = s.halt := by
  cases move with
  | turnsWheel => rw [tickHandler_frame]
  | _ => rfl

/-- A step of a running block enters a fault exactly when it is MAIN's turn and one is due. -/
theorem step_enters_or_runs {s t : State} (hstep : step s = .next t) (running : s.halt = false) :
    ((s.nextEvent = .main ∧ FaultDue s) ∧ t = s.takeEvent.enterFault (faultAtCp s)) ∨
      (¬ (s.nextEvent = .main ∧ FaultDue s) ∧ t.halt = false) := by
  obtain ⟨-, ⟨d, hd, rfl⟩ | ⟨-, hn, hturn⟩⟩ := step_next s t hstep
  · exact .inr ⟨by simp [hd], rfl⟩
  by_cases main : s.nextEvent = .main
  · rw [main] at hturn
    have hmain := mainTurn_enters_or_keeps hturn
    simpa [FaultDue, main, running] using hmain
  · have hhalt := (sideMove_of_turn hturn main hn).halt_eq
    exact .inr ⟨fun due => main due.1, by simpa [running] using hhalt⟩

/-- Fault entry at a word writes the four registers of 60_exceptions.md R242 and nothing else. -/
theorem enterFault_faultsInto {s : State} {w : Word} (hw : memRead s s.cp = some w) (cause : FaultCause) :
    FaultsInto s cause w (s.enterFault cause) := by
  rw [FaultsInto, State.enterFault, hw]
  rfl

/-- The commands that raise a fault, and the flags each raises it on (60_exceptions.md R240). -/
theorem faultOf_ne_none_iff (i : Instr) (s : State) :
    faultOf i s ≠ .none ↔
      ((∃ ch v, i = .sendBit ch v) ∨ (∃ ch v, i = .sendByte ch v) ∨ ∃ ch p, i = .sendPixel ch p) ∧ s.ie = true ∨
      i = .strobeStart ∧ s.adcBusy = true ∨
      i = .takeSample ∧ s.ready = false ∨
      i = .waitReady ∧ s.ready = false ∧ (s.ie = false ∨ s.adcBusy = false ∧ s.adcPend = false) := by
  cases i with
  | waitReady =>
    have hhopeless := waitIsHopeless_eq_true_iff s
    cases hready : s.ready <;> simp [faultOf, hready, ← hhopeless]
  | _ => simp [faultOf]

/-- A fault a command raises tells which command it was, and none of them is ILLEGAL_CMD (60_exceptions.md R240). -/
theorem command_of_faultOf {i : Instr} {s : State} (isFault : faultOf i s ≠ .none) :
    faultOf i s ≠ .illegalCmd ∧
      (faultOf i s = .unmaskedSend ↔
        (∃ ch v, i = .sendBit ch v) ∨ (∃ ch v, i = .sendByte ch v) ∨ ∃ ch p, i = .sendPixel ch p) ∧
      (faultOf i s = .adcBusyStart ↔ i = .strobeStart) ∧ (faultOf i s = .staleTake ↔ i = .takeSample) ∧
      (faultOf i s = .waitDeadlock ↔ i = .waitReady) := by
  obtain ⟨⟨ch, v, rfl⟩ | ⟨ch, v, rfl⟩ | ⟨ch, p, rfl⟩, unmasked⟩ | ⟨rfl, busy⟩ | ⟨rfl, stale⟩ |
    ⟨rfl, notReady, deadlock⟩ := (faultOf_ne_none_iff i s).mp isFault
  · simp [faultOf, unmasked]
  · simp [faultOf, unmasked]
  · simp [faultOf, unmasked]
  · simp [faultOf, busy]
  · simp [faultOf, stale]
  · simp [faultOf, notReady, (waitIsHopeless_eq_true_iff s).mpr deadlock]

/-- A fault is raised at `cp` where no command decodes, or where one decodes whose own guard fails (60_exceptions.md
R241). -/
theorem faultAtCp_ne_none_iff (s : State) :
    faultAtCp s ≠ .none ↔ (∀ i, decode s.cfg.nch s.stream s.cp ≠ .ok i) ∨
      ∃ i, decode s.cfg.nch s.stream s.cp = .ok i ∧ faultOf i s ≠ .none := by
  cases hdecode : decode s.cfg.nch s.stream s.cp with
  | ok i => simp [faultAtCp_of_ok hdecode]
  | error e => simp [faultAtCp_of_error hdecode]

end Sys2Proof.Laws
end

section
/-! The two handlers side by side (60_exceptions.md R252). -/

namespace Sys2Proof.Laws

open Sys2Proof.Machine

/-- A running block takes the first scheduled event's turn, with the other events left. -/
theorem step_withSched_cons {s : State} (admitted : s.cfg.admitted = true) (running : s.halt = false) (e : Event)
    (rest : List Event) : step (s.withSched (e :: rest)) = turn e (s.withSched rest) :=
  step_of_moves (s.withSched (e :: rest)) e ⟨admitted, running, rfl⟩

/-- The wheel's step reads the rainbow registers and the parameters only (43_animation.md R155). -/
theorem adv_of_keepsRainbow {s u : State} (kept : KeepsRainbow s u) (hcfg : u.cfg = s.cfg) :
    adv u = { u with
      rainR := (adv s).rainR, rainG := (adv s).rainG, rainB := (adv s).rainB, rainPh := (adv s).rainPh } := by
  have hrain (c : Colour) : u.rain c = s.rain c := by
    cases c with
    | red => exact kept.rainR
    | green => exact kept.rainG
    | blue => exact kept.rainB
  have hchannel (c : Colour) : (adv u).rain c = (adv s).rain c := by simp only [rain_adv, hrain, kept.rainPh, hcfg]
  have hred : (adv u).rainR = (adv s).rainR := hchannel .red
  have hgreen : (adv u).rainG = (adv s).rainG := hchannel .green
  have hblue : (adv u).rainB = (adv s).rainB := hchannel .blue
  have hphase : (adv u).rainPh = (adv s).rainPh := by simp only [rainPh_adv, hrain, kept.rainPh, hcfg]
  rw [adv_frame u, hred, hgreen, hblue, hphase]

/-- The tick handler too reads those only, and beside them it writes the pending tick (43_animation.md R154). -/
theorem tickHandler_of_keepsRainbow {s u : State} (kept : KeepsRainbow s u) (hcfg : u.cfg = s.cfg) :
    tickHandler u = { u with
      tickPend := false, rainR := (tickHandler s).rainR, rainG := (tickHandler s).rainG,
      rainB := (tickHandler s).rainB, rainPh := (tickHandler s).rainPh } :=
  adv_of_keepsRainbow (s := { s with tickPend := false }) (u := { u with tickPend := false }) { kept with } hcfg

/-- The tick handler's effect does not depend on the schedule. -/
theorem tickHandler_withSched (s : State) (l : List Event) :
    tickHandler (s.withSched l) = (tickHandler s).withSched l :=
  (tickHandler_of_keepsRainbow (s := s) (u := s.withSched l) ⟨rfl, rfl, rfl, rfl⟩ rfl).trans
    (congrArg (State.withSched · l) (tickHandler_frame s)).symm

/-- The completion handler writes the mailbox, the tick handler the wheel, and neither reads what the other writes
(42_sampler.md R137, 43_animation.md R154). -/
theorem tickHandler_adcHandler (s : State) : tickHandler (adcHandler s) = adcHandler (tickHandler s) :=
  (tickHandler_of_keepsRainbow (s := s) (u := adcHandler s) ⟨rfl, rfl, rfl, rfl⟩ rfl).trans
    (congrArg adcHandler (tickHandler_frame s)).symm

theorem adcIsrTurn_withSched (s : State) (l : List Event) :
    adcIsrTurn (s.withSched l) = (adcIsrTurn s).withSched l := by
  rw [adcIsrTurn, adcIsrTurn, apply_ite (State.withSched · l)]
  rfl

theorem tickIsrTurn_withSched (s : State) (l : List Event) :
    tickIsrTurn (s.withSched l) = (tickIsrTurn s).withSched l := by
  rw [tickIsrTurn, tickIsrTurn, apply_ite (State.withSched · l), tickHandler_withSched]
  rfl

@[simp] theorem tickIsrReady_adcHandler (s : State) : tickIsrReady (adcHandler s) = tickIsrReady s := rfl

@[simp] theorem adcIsrReady_tickHandler (s : State) : adcIsrReady (tickHandler s) = adcIsrReady s := by
  rw [tickHandler_frame]
  rfl

/-- The two handlers' turns commute, enabled or not: neither's guard reads what the other writes (60_exceptions.md
R252). -/
theorem tickIsrTurn_adcIsrTurn (s : State) : tickIsrTurn (adcIsrTurn s) = adcIsrTurn (tickIsrTurn s) := by
  cases hadc : adcIsrReady s <;> cases htick : tickIsrReady s <;>
    simp [adcIsrTurn, tickIsrTurn, hadc, htick, tickHandler_adcHandler]

/-- No agent other than MAIN halts the block or writes the configuration, so the next agent has its turn. -/
theorem SideMove.stays_running {s t : State} {e : Event} (move : SideMove s e t) (admitted : s.cfg.admitted = true)
    (running : s.halt = false) : t.cfg.admitted = true ∧ t.halt = false :=
  ⟨by rw [move.cfg_stream.1]; exact admitted, by rw [move.halt_eq]; exact running⟩

end Sys2Proof.Laws
end

section
/-! The statements of 60_exceptions.md. -/

namespace Sys2Proof.Laws

open Sys2Proof.Machine

/-- Settles O19: a halted next state is a fault entry at a word, by MAIN; once halted, the step is the fault outcome. -/
theorem faultsArePrecise : Obligations.FaultsArePrecise := by
  intro s t hstep running halted
  obtain ⟨⟨-, hlt, isFault⟩, ht⟩ | ⟨-, runs⟩ := step_enters_or_runs hstep running
  · obtain ⟨admitted, -⟩ := step_next s t hstep
    have admitted' : t.cfg.admitted = true := by simpa [ht] using admitted
    refine ⟨⟨s.stream[s.cp], List.getElem?_eq_getElem hlt, by simpa [ht] using isFault, ?_⟩,
      step_of_halted t admitted' halted, by simp [State.endedWell, halted]⟩
    have hword : memRead s.takeEvent s.takeEvent.cp = some s.stream[s.cp] := by simp [memRead]
    simpa [ht] using enterFault_faultsInto hword (faultAtCp s)
  · simp [runs] at halted

/-- Settles O20: a fault is entered exactly where one is due at `cp` on MAIN's turn, and its cause tells what stands
there. -/
theorem eachFaultHasItsCause : Obligations.EachFaultHasItsCause := by
  intro s t hstep running
  simp only [← faultOf_ne_none_iff, ← faultAtCp_ne_none_iff]
  obtain ⟨due, rfl⟩ | ⟨notDue, runs⟩ := step_enters_or_runs hstep running
  · refine ⟨iff_of_true rfl due, fun _ => ?_⟩
    obtain ⟨-, -, isFault⟩ := due
    rw [enterFault_fcause]
    cases hdecode : decode s.cfg.nch s.stream s.cp with
    | ok i =>
      rw [faultAtCp_of_ok hdecode] at isFault ⊢
      simpa using command_of_faultOf isFault
    | error e => simp [faultAtCp_of_error hdecode]
  · exact ⟨iff_of_false (by simp [runs]) notDue, fun halted => by simp [runs] at halted⟩

/-- Settles O50: the two turns commute, and neither looks at the schedule that puts the other next to it. -/
theorem handlersCommute : Obligations.HandlersCommute := by
  intro s rest admitted running
  obtain ⟨admittedA, runningA⟩ := (sideMove_adcIsrTurn s).stays_running admitted running
  obtain ⟨admittedB, runningB⟩ := (sideMove_tickIsrTurn s).stays_running admitted running
  refine ⟨(adcIsrTurn s).withSched (.tickIsr :: rest), (tickIsrTurn s).withSched (.adcIsr :: rest),
    (tickIsrTurn (adcIsrTurn s)).withSched rest, ?_, ?_, ?_, ?_⟩
  · exact (step_withSched_cons admitted running .adcIsr _).trans (congrArg _ (adcIsrTurn_withSched s _))
  · exact (step_withSched_cons admittedA runningA .tickIsr rest).trans (congrArg _ (tickIsrTurn_withSched _ rest))
  · exact (step_withSched_cons admitted running .tickIsr _).trans (congrArg _ (tickIsrTurn_withSched s _))
  · rw [tickIsrTurn_adcIsrTurn]
    exact (step_withSched_cons admittedB runningB .adcIsr rest).trans (congrArg _ (adcIsrTurn_withSched _ rest))

/-- Settles O21: the code of each cause, as R240 lists them. -/
theorem faultCodesAreOneToFive : Obligations.FaultCodesAreOneToFive := ⟨rfl, rfl, rfl, rfl, rfl, rfl⟩

end Sys2Proof.Laws
end

section
/-! How long a burst lasts (70_reset_and_hazards.md R300, R301). -/

namespace Sys2Proof.Laws

open Sys2Proof.Machine

theorem burstTime_cons (cfg : Config.Params) (b : Bit) (bits : Burst) :
    burstTime cfg (b :: bits) = highTime cfg b + lowTime cfg b + burstTime cfg bits :=
  (Nat.add_assoc _ _ _).symm

/-- A burst lasts as long as its 1s and its 0s do, whatever the phase times (R301). -/
theorem burstTime_eq_counts (cfg : Config.Params) (bits : Burst) :
    burstTime cfg bits = (cfg.t1h + cfg.t1l) * bits.count true + (cfg.t0h + cfg.t0l) * bits.count false := by
  induction bits with
  | nil => rfl
  | cons b bits ih =>
    rw [burstTime_cons, ih]
    cases b with
    | true =>
      rw [List.count_cons_self, List.count_cons_of_ne Bool.false_ne_true.symm, Nat.mul_succ]
      simp only [highTime, lowTime, if_true]
      omega
    | false =>
      rw [List.count_cons_self, List.count_cons_of_ne Bool.false_ne_true, Nat.mul_succ]
      simp only [highTime, lowTime, Bool.false_eq_true, if_false]
      omega

/-- The phase times of the source, in nanoseconds (R300). -/
structure SourcePhaseTimes (cfg : Config.Params) : Prop where
  t1h : cfg.t1h = 700
  t1l : cfg.t1l = 600
  t0h : cfg.t0h = 350
  t0l : cfg.t0l = 800

/-- The formula of R301, in nanoseconds. -/
theorem SourcePhaseTimes.burstTime_eq {cfg : Config.Params} (h : SourcePhaseTimes cfg) (bits : Burst) :
    burstTime cfg bits = 1150 * bits.length + 150 * bits.count true := by
  have hcount := List.count_true_add_count_false bits
  rw [burstTime_eq_counts, h.t1h, h.t1l, h.t0h, h.t0l]
  omega

/-- Between all bits 0 and all bits 1 (R301). -/
theorem SourcePhaseTimes.burstTime_range {cfg : Config.Params} (h : SourcePhaseTimes cfg) (bits : Burst) :
    1150 * bits.length ≤ burstTime cfg bits ∧ burstTime cfg bits ≤ 1300 * bits.length := by
  have hones : bits.count true ≤ bits.length := List.count_le_length
  rw [h.burstTime_eq]
  omega

end Sys2Proof.Laws
end

section
/-! A WAIT_READY on a conversion that does not complete (42_sampler.md R133, 70_reset_and_hazards.md R295). -/

namespace Sys2Proof.Laws

open Sys2Proof.Machine

/-- MAIN holds at a WAIT_READY on a conversion in progress, with no completion pending from an earlier one. -/
structure WaitsOnConverter (s : State) : Prop extends HoldsAtWait s where
  busy : s.adcBusy = true
  notPending : s.adcPend = false

theorem WaitsOnConverter.takeEvent {s : State} (h : WaitsOnConverter s) : WaitsOnConverter s.takeEvent where
  toHoldsAtWait := h.toHoldsAtWait.takeEvent
  busy := by simpa using h.busy
  notPending := by simpa using h.notPending

/-- Only the converter ends the wait: without a pending completion its handler has no step (42_sampler.md R137). -/
theorem SideMove.waitsOnConverter {s t : State} {e : Event} (move : SideMove s e t) (h : WaitsOnConverter s)
    (notAdc : ∀ v, e ≠ .adc v) : WaitsOnConverter t := by
  cases move with
  | rests => exact h
  | converts v => exact absurd rfl (notAdc v)
  | publishes _ pending => simp [h.notPending] at pending
  | ticks => exact { h with }
  | turnsWheel => rw [tickHandler_frame]; exact { h with }

/-- Where a step answers a next state, a run goes on to it. -/
theorem run_succ_of_step {r : Nat → State} (run : IsRun r) {n : Nat} {t : State} (hstep : step (r n) = .next t) :
    r (n + 1) = t := by
  obtain hnext | ⟨hstuck, -⟩ := run n
  · exact Host.Outcome.next.inj (hnext.symm.trans hstep)
  · exact absurd hstep (hstuck t)

/-- MAIN waits where it stood for as long as neither the converter's turn nor a reset comes. -/
theorem waitsOnConverter_of_stalled {r : Nat → State} (run : IsRun r) (h0 : WaitsOnConverter (r 0)) {n : Nat}
    (stalled : ∀ m < n, (∀ v, (r m).nextEvent ≠ .adc v) ∧ ∀ d, (r m).nextEvent ≠ .reset d) :
    WaitsOnConverter (r n) ∧ (r n).cp = (r 0).cp := by
  induction n with
  | zero => exact ⟨h0, rfl⟩
  | succ n ih =>
    obtain ⟨h, hcp⟩ := ih fun m hm => stalled m (Nat.lt_succ_of_lt hm)
    obtain ⟨notAdc, noReset⟩ := stalled n (Nat.lt_succ_self n)
    obtain ⟨t, hstep, move⟩ := h.step_sideMove noReset
    rw [run_succ_of_step run hstep]
    exact ⟨move.waitsOnConverter h.takeEvent notAdc, (keepsMainRegisters_of_sideMove move).cp.trans hcp⟩

end Sys2Proof.Laws
end

section
/-! A run that has ended well (70_reset_and_hazards.md R285). -/

namespace Sys2Proof.Laws

open Sys2Proof.Machine

theorem endedWell_iff (s : State) : s.endedWell = true ↔
    s.halt = false ∧ s.cp = s.stream.length ∧ s.adcBusy = false ∧ (s.adcPend = false ∨ s.ie = false) := by
  simp [State.endedWell, and_assoc]

@[simp] theorem endedWell_takeEvent (s : State) : s.takeEvent.endedWell = s.endedWell := by simp [State.endedWell]

/-- The model's own fields are not observed. -/
@[simp] theorem observed_takeEvent (s : State) : s.takeEvent.observed = s.observed := by
  unfold State.takeEvent
  split <;> rfl

/-- At the end of the stream MAIN rests, so a step that is no reset is at most another agent's (10_state.md R38). -/
theorem sideMove_of_step_at_end {s t : State} (hend : s.stream.length ≤ s.cp) (hstep : step s = .next t)
    (hn : ∀ d, s.nextEvent ≠ .reset d) : SideMove s.takeEvent s.nextEvent t := by
  obtain ⟨admitted, ⟨d, hd, -⟩ | ⟨running, -, hturn⟩⟩ := step_next s t hstep
  · exact absurd hd (hn d)
  by_cases main : s.nextEvent = .main
  · cases (mainRestsAtTheEndOfTheStream s ⟨admitted, running, main⟩ hend).symm.trans hstep
    exact .rests _
  · exact sideMove_of_turn hturn main hn

/-- After a good end neither the converter nor its handler is enabled: what is left are the timer, which marks a tick,
and the tick handler, which takes it and moves the wheel (R285). -/
theorem SideMove.onlyTicks_of_endedWell {s t : State} {e : Event} (move : SideMove s e t) (ended : s.endedWell = true) :
    t = { s with
      tickPend := t.tickPend, rainR := t.rainR, rainG := t.rainG, rainB := t.rainB, rainPh := t.rainPh } := by
  obtain ⟨-, -, idle, quiet⟩ := (endedWell_iff s).mp ended
  cases move with
  | rests => rfl
  | converts v busy => simp [idle] at busy
  | publishes enabled pending => simp [enabled, pending] at quiet
  | ticks => rfl
  | turnsWheel => rw [tickHandler_frame]

end Sys2Proof.Laws
end

section
/-! The statements of 70_reset_and_hazards.md. -/

namespace Sys2Proof.Laws

open Sys2Proof.Machine

/-- Settles O28: the formula bounds a burst by its length, which is 8 bits for a byte and 24 a pixel for a frame. -/
theorem transmissionTimeFormula : Obligations.TransmissionTimeFormula := by
  intro cfg t1h t1l t0h t0l
  have hsource : SourcePhaseTimes cfg := ⟨t1h, t1l, t0h, t0l⟩
  refine ⟨hsource.burstTime_eq, fun v => ?_, fun px => ?_⟩
  · have hrange := hsource.burstTime_range (byteBits v)
    rwa [byteBits_length] at hrange
  · have hrange := hsource.burstTime_range (frameBits px)
    rw [frameBits_length] at hrange
    omega

/-- Settles O42: the state asked for is one in which MAIN still waits on the converter. -/
theorem waitHoldsWhileTheConverterStalls : Obligations.WaitHoldsWhileTheConverterStalls := by
  intro r n run admitted running enabled notReady busy notPending atWait stalled
  have h0 : WaitsOnConverter (r 0) :=
    ⟨⟨admitted, running, enabled, notReady, .inl busy, atWait⟩, busy, notPending⟩
  obtain ⟨h, hcp⟩ := waitsOnConverter_of_stalled run h0 stalled
  exact ⟨h.running, hcp, h.notReady, h.busy, h.atWait⟩

/-- Settles O54: of the moves of a step only the ticks' are left, and the end looks at none of the registers they
write. -/
theorem endedRunOnlyTicks : Obligations.EndedRunOnlyTicks := by
  intro s t ended hstep hn
  obtain ⟨-, hcp, -⟩ := (endedWell_iff s).mp ended
  have ended' : s.takeEvent.endedWell = true := by rwa [endedWell_takeEvent]
  have hticks := (sideMove_of_step_at_end hcp.ge hstep hn).onlyTicks_of_endedWell ended'
  refine ⟨?_, ?_⟩
  · rw [hticks]
    exact ended'
  · rw [← observed_takeEvent s]
    exact congrArg State.observed hticks

/-- Settles O2: with interrupts masked and no conversion in progress or pending, WAIT_READY is the deadlock's case. -/
theorem afterResetTheBlockIsQuiet : Obligations.AfterResetTheBlockIsQuiet := by
  obtain ⟨-, -, -, hdeadlock, -⟩ := waitReadyPassesFaultsOrHolds
  refine ⟨fun cfg stream d => ?_, _, _, _, rfl⟩
  exact ⟨rfl, rfl, rfl, rfl, rfl, rfl, rfl, rfl, rfl, rfl, hdeadlock _ rfl (.inl rfl)⟩

end Sys2Proof.Laws
end
